-- ==== Sys2Proof/Word.lean ====
section
/-! DEFINITION. The word types of the block: bytes on the bus (R51), CPU-bus addresses (R37), the 14-bit VRAM
address (R22) and the 32-bit operation word (R73). -/

namespace Sys2Proof

/-- One byte of bus data (R8: 8 bits, unsigned). -/
abbrev Byte := BitVec 8

/-- A CPU-bus address (R37: 16 bits, one byte per address). -/
abbrev Addr := BitVec 16

/-- A PPU-space address (R22, R37: 14 bits, wraps at 0x4000). -/
abbrev VramAddr := BitVec 14

/-- The 32-bit word that carries one operation (R73). -/
abbrev OpWord := BitVec 32

end Sys2Proof
end

