-- ==== Sys2Proof/Syntax.lean ====
section
/-! DEFINITION. The operations of the block (R8: "Operations are the instructions of this block"): one constructor per row
of spec/opcode_table.json, and the bus accesses the CPU collaborator issues (R8, R180). -/

namespace Sys2Proof

/-- The two halves of palette memory a PALETTE_QUERY names (R198: 0 = background, 1 = sprite). -/
inductive PaletteArea where
  | background
  | sprite
  deriving DecidableEq, Repr

/-- One access on the CPU bus (R51: the only width is one byte). -/
inductive BusOp where
  /-- `BusRead(addr)` of R8. -/
  | read (addr : Addr)
  /-- `BusWrite(addr, v)` of R8. -/
  | write (addr : Addr) (data : Byte)
  deriving DecidableEq, Repr

/-- Why a word is not an operation (R82 (d)). -/
inductive DecodeError where
  /-- The kind W[31:28] is 10..15. -/
  | notAKind
  /-- A reserved bit of the word's format is 1. -/
  | reservedBits
  deriving DecidableEq, Repr

/-- The operations, in the order of spec/opcode_table.json. A row whose address field is not one fixed value carries the
16-bit address used (a fault record names it, R115); a bus read's ignored byte W[7:0] is not carried (R73). -/
inductive Instr where
  /-- RAM_RD (R90): bus read at $0000-$1FFF. -/
  | ramRd (addr : Addr)
  /-- RAM_WR (R91): bus write at $0000-$1FFF. -/
  | ramWr (addr : Addr) (data : Byte)
  /-- PPUCTRL1_RD (R110): bus read at port 0 of the window $2000-$3FFF. -/
  | ppuctrl1Rd (addr : Addr)
  /-- PPUCTRL1_WR (R111): bus write at port 0 of the window $2000-$3FFF. -/
  | ppuctrl1Wr (addr : Addr) (data : Byte)
  /-- PPUCTRL2_RD (R112): bus read at port 1 of the window $2000-$3FFF. -/
  | ppuctrl2Rd (addr : Addr)
  /-- PPUCTRL2_WR (R113): bus write at port 1 of the window $2000-$3FFF. -/
  | ppuctrl2Wr (addr : Addr) (data : Byte)
  /-- PPUSTATUS_RD (R114): bus read at port 2 of the window $2000-$3FFF. -/
  | ppustatusRd (addr : Addr)
  /-- PPUSTATUS_WR (R115): bus write at port 2 of the window $2000-$3FFF. -/
  | ppustatusWr (addr : Addr) (data : Byte)
  /-- SPRADDR_RD (R116): bus read at port 3 of the window $2000-$3FFF. -/
  | spraddrRd (addr : Addr)
  /-- SPRADDR_WR (R117): bus write at port 3 of the window $2000-$3FFF. -/
  | spraddrWr (addr : Addr) (data : Byte)
  /-- SPRDATA_RD (R118): bus read at port 4 of the window $2000-$3FFF. -/
  | sprdataRd (addr : Addr)
  /-- SPRDATA_WR (R119): bus write at port 4 of the window $2000-$3FFF. -/
  | sprdataWr (addr : Addr) (data : Byte)
  /-- PPUSCROLL_RD (R120): bus read at port 5 of the window $2000-$3FFF. -/
  | ppuscrollRd (addr : Addr)
  /-- PPUSCROLL_WR (R121): bus write at port 5 of the window $2000-$3FFF. -/
  | ppuscrollWr (addr : Addr) (data : Byte)
  /-- PPUADDR_RD (R122): bus read at port 6 of the window $2000-$3FFF. -/
  | ppuaddrRd (addr : Addr)
  /-- PPUADDR_WR (R123): bus write at port 6 of the window $2000-$3FFF. -/
  | ppuaddrWr (addr : Addr) (data : Byte)
  /-- PPUDATA_RD (R124): bus read at port 7 of the window $2000-$3FFF. -/
  | ppudataRd (addr : Addr)
  /-- PPUDATA_WR (R125): bus write at port 7 of the window $2000-$3FFF. -/
  | ppudataWr (addr : Addr) (data : Byte)
  /-- APU_RD_4000 (R95): bus read at $4000-$400F. -/
  | apuRd4000 (addr : Addr)
  /-- APU_RD_4010 (R95): bus read at $4010-$4013. -/
  | apuRd4010 (addr : Addr)
  /-- APU_RD_4015 (R95): bus read at $4015. -/
  | apuRd4015
  /-- APU_WR_4000 (R96): bus write at $4000-$400F. -/
  | apuWr4000 (addr : Addr) (data : Byte)
  /-- APU_WR_4010 (R96): bus write at $4010-$4013. -/
  | apuWr4010 (addr : Addr) (data : Byte)
  /-- APU_WR_4015 (R96): bus write at $4015. -/
  | apuWr4015 (data : Byte)
  /-- APU_WR_4017 (R96): bus write at $4017. -/
  | apuWr4017 (data : Byte)
  /-- SPRDMA_RD (R141): bus read at $4014. -/
  | sprdmaRd
  /-- SPRDMA_WR (R140): bus write at $4014. -/
  | sprdmaWr (data : Byte)
  /-- JOY1_RD (R150): bus read at $4016. -/
  | joy1Rd
  /-- JOY1_WR (R152): bus write at $4016. -/
  | joy1Wr (data : Byte)
  /-- JOY2_RD (R151): bus read at $4017. -/
  | joy2Rd
  /-- UNMAPPED_RD_4018 (R97): bus read at $4018-$401F. -/
  | unmappedRd4018 (addr : Addr)
  /-- UNMAPPED_RD_4020 (R97): bus read at $4020-$403F. -/
  | unmappedRd4020 (addr : Addr)
  /-- UNMAPPED_RD_4040 (R97): bus read at $4040-$407F. -/
  | unmappedRd4040 (addr : Addr)
  /-- UNMAPPED_RD_4080 (R97): bus read at $4080-$40FF. -/
  | unmappedRd4080 (addr : Addr)
  /-- UNMAPPED_RD_4100 (R97): bus read at $4100-$41FF. -/
  | unmappedRd4100 (addr : Addr)
  /-- UNMAPPED_RD_4200 (R97): bus read at $4200-$43FF. -/
  | unmappedRd4200 (addr : Addr)
  /-- UNMAPPED_RD_4400 (R97): bus read at $4400-$47FF. -/
  | unmappedRd4400 (addr : Addr)
  /-- UNMAPPED_RD_4800 (R97): bus read at $4800-$4FFF. -/
  | unmappedRd4800 (addr : Addr)
  /-- UNMAPPED_RD_5000 (R97): bus read at $5000-$5FFF. -/
  | unmappedRd5000 (addr : Addr)
  /-- UNMAPPED_WR_4018 (R97): bus write at $4018-$401F. -/
  | unmappedWr4018 (addr : Addr) (data : Byte)
  /-- UNMAPPED_WR_4020 (R97): bus write at $4020-$403F. -/
  | unmappedWr4020 (addr : Addr) (data : Byte)
  /-- UNMAPPED_WR_4040 (R97): bus write at $4040-$407F. -/
  | unmappedWr4040 (addr : Addr) (data : Byte)
  /-- UNMAPPED_WR_4080 (R97): bus write at $4080-$40FF. -/
  | unmappedWr4080 (addr : Addr) (data : Byte)
  /-- UNMAPPED_WR_4100 (R97): bus write at $4100-$41FF. -/
  | unmappedWr4100 (addr : Addr) (data : Byte)
  /-- UNMAPPED_WR_4200 (R97): bus write at $4200-$43FF. -/
  | unmappedWr4200 (addr : Addr) (data : Byte)
  /-- UNMAPPED_WR_4400 (R97): bus write at $4400-$47FF. -/
  | unmappedWr4400 (addr : Addr) (data : Byte)
  /-- UNMAPPED_WR_4800 (R97): bus write at $4800-$4FFF. -/
  | unmappedWr4800 (addr : Addr) (data : Byte)
  /-- UNMAPPED_WR_5000 (R97): bus write at $5000-$5FFF. -/
  | unmappedWr5000 (addr : Addr) (data : Byte)
  /-- SRAM_RD (R98): bus read at $6000-$7FFF. -/
  | sramRd (addr : Addr)
  /-- SRAM_WR (R99): bus write at $6000-$7FFF. -/
  | sramWr (addr : Addr) (data : Byte)
  /-- PRG_RD (R100): bus read at $8000-$FFFF. -/
  | prgRd (addr : Addr)
  /-- PRG_WR (R101): bus write at $8000-$FFFF. -/
  | prgWr (addr : Addr) (data : Byte)
  /-- TICK (R165): `n` CPU cycles pass. -/
  | tick (n : BitVec 16)
  /-- NMI_ACK (R181): the pending NMI is taken, the entry cost `m` CPU cycles. -/
  | nmiAck (m : BitVec 16)
  /-- RESET (R240): reset, the reset entry cost `m` CPU cycles. -/
  | reset (m : BitVec 16)
  /-- SET_BUTTON (R153): button `b` of controller `c` is pressed (`s`) or released. -/
  | setButton (c : Fin 2) (b : Fin 8) (s : Bool)
  /-- CREATE (R190): a new system. -/
  | create
  /-- ADVANCE_FRAME (R182): the frame driver's loop. -/
  | advanceFrame
  /-- PALETTE_QUERY (R198). -/
  | paletteQuery (area : PaletteArea) (pal : Fin 4) (color : Fin 4)
  /-- LOAD_CART (R191): load the next image the host hands over. -/
  | loadCart
  deriving DecidableEq, Repr

end Sys2Proof
end

