-- ==== Sys2Proof/WellFormed.lean ====
section
/-! DEFINITION. When an operation is one the encoding can carry: the address of a bus operation lies in its row's range
(R72, R74). Every other operand is held to its range by its type. -/

namespace Sys2Proof

/-- `a` lies in the inclusive range `lo..hi` of the CPU address map (R41). -/
def Addr.inRange (a : Addr) (lo hi : Nat) : Bool := decide (lo ≤ a.toNat) && decide (a.toNat ≤ hi)

/-- `a` is an image of PPU port `p`: in the window $2000-$3FFF with `addr & 7 = p` (R45). -/
def Addr.isPort (a : Addr) (p : Nat) : Bool := a.inRange 0x2000 0x3FFF && decide (a.toNat % 8 = p)

/-- Well-formedness: the check R72 makes on the address of the operation. -/
def Instr.wf : Instr → Bool
  | .ramRd addr => addr.inRange 0x0000 0x1FFF
  | .ramWr addr _ => addr.inRange 0x0000 0x1FFF
  | .ppuctrl1Rd addr => addr.isPort 0
  | .ppuctrl1Wr addr _ => addr.isPort 0
  | .ppuctrl2Rd addr => addr.isPort 1
  | .ppuctrl2Wr addr _ => addr.isPort 1
  | .ppustatusRd addr => addr.isPort 2
  | .ppustatusWr addr _ => addr.isPort 2
  | .spraddrRd addr => addr.isPort 3
  | .spraddrWr addr _ => addr.isPort 3
  | .sprdataRd addr => addr.isPort 4
  | .sprdataWr addr _ => addr.isPort 4
  | .ppuscrollRd addr => addr.isPort 5
  | .ppuscrollWr addr _ => addr.isPort 5
  | .ppuaddrRd addr => addr.isPort 6
  | .ppuaddrWr addr _ => addr.isPort 6
  | .ppudataRd addr => addr.isPort 7
  | .ppudataWr addr _ => addr.isPort 7
  | .apuRd4000 addr => addr.inRange 0x4000 0x400F
  | .apuRd4010 addr => addr.inRange 0x4010 0x4013
  | .apuRd4015 => true
  | .apuWr4000 addr _ => addr.inRange 0x4000 0x400F
  | .apuWr4010 addr _ => addr.inRange 0x4010 0x4013
  | .apuWr4015 _ => true
  | .apuWr4017 _ => true
  | .sprdmaRd => true
  | .sprdmaWr _ => true
  | .joy1Rd => true
  | .joy1Wr _ => true
  | .joy2Rd => true
  | .unmappedRd4018 addr => addr.inRange 0x4018 0x401F
  | .unmappedRd4020 addr => addr.inRange 0x4020 0x403F
  | .unmappedRd4040 addr => addr.inRange 0x4040 0x407F
  | .unmappedRd4080 addr => addr.inRange 0x4080 0x40FF
  | .unmappedRd4100 addr => addr.inRange 0x4100 0x41FF
  | .unmappedRd4200 addr => addr.inRange 0x4200 0x43FF
  | .unmappedRd4400 addr => addr.inRange 0x4400 0x47FF
  | .unmappedRd4800 addr => addr.inRange 0x4800 0x4FFF
  | .unmappedRd5000 addr => addr.inRange 0x5000 0x5FFF
  | .unmappedWr4018 addr _ => addr.inRange 0x4018 0x401F
  | .unmappedWr4020 addr _ => addr.inRange 0x4020 0x403F
  | .unmappedWr4040 addr _ => addr.inRange 0x4040 0x407F
  | .unmappedWr4080 addr _ => addr.inRange 0x4080 0x40FF
  | .unmappedWr4100 addr _ => addr.inRange 0x4100 0x41FF
  | .unmappedWr4200 addr _ => addr.inRange 0x4200 0x43FF
  | .unmappedWr4400 addr _ => addr.inRange 0x4400 0x47FF
  | .unmappedWr4800 addr _ => addr.inRange 0x4800 0x4FFF
  | .unmappedWr5000 addr _ => addr.inRange 0x5000 0x5FFF
  | .sramRd addr => addr.inRange 0x6000 0x7FFF
  | .sramWr addr _ => addr.inRange 0x6000 0x7FFF
  | .prgRd addr => addr.inRange 0x8000 0xFFFF
  | .prgWr addr _ => addr.inRange 0x8000 0xFFFF
  | .tick _ => true
  | .nmiAck _ => true
  | .reset _ => true
  | .setButton _ _ _ => true
  | .create => true
  | .advanceFrame => true
  | .paletteQuery _ _ _ => true
  | .loadCart => true

end Sys2Proof
end

