-- ==== Sys2Proof/Decode.lean ====
section
/-! DEFINITION. Decoding an operation word into an operation (R72, R73, R74), total and rejecting by name (R82 (d)); then the
encoder written from the same tables, and the match/mask rows of spec/opcode_table.json. -/

namespace Sys2Proof

/-- The PPU port a read in the window $2000-$3FFF reaches (R72: selected by `addr[2:0]`). -/
def portRead (a : Addr) : Instr :=
  match a.toNat % 8 with
    | 0 => .ppuctrl1Rd a
    | 1 => .ppuctrl2Rd a
    | 2 => .ppustatusRd a
    | 3 => .spraddrRd a
    | 4 => .sprdataRd a
    | 5 => .ppuscrollRd a
    | 6 => .ppuaddrRd a
    | _ => .ppudataRd a

/-- The PPU port a write in the window $2000-$3FFF reaches (R72). -/
def portWrite (a : Addr) (v : Byte) : Instr :=
  match a.toNat % 8 with
    | 0 => .ppuctrl1Wr a v
    | 1 => .ppuctrl2Wr a v
    | 2 => .ppustatusWr a v
    | 3 => .spraddrWr a v
    | 4 => .sprdataWr a v
    | 5 => .ppuscrollWr a v
    | 6 => .ppuaddrWr a v
    | _ => .ppudataWr a v

/-- The operation a read of $4000-$4017 performs (R72), the APU reads split into the table's rows (R74). -/
def ioRead (a : Addr) : Instr :=
  if a.toNat < 0x4010 then .apuRd4000 a
  else if a.toNat < 0x4014 then .apuRd4010 a
  else if a.toNat < 0x4015 then .sprdmaRd
  else if a.toNat < 0x4016 then .apuRd4015
  else if a.toNat < 0x4017 then .joy1Rd
  else .joy2Rd

/-- The operation a write of $4000-$4017 performs (R72), the APU writes split into the table's rows (R74). -/
def ioWrite (a : Addr) (v : Byte) : Instr :=
  if a.toNat < 0x4010 then .apuWr4000 a v
  else if a.toNat < 0x4014 then .apuWr4010 a v
  else if a.toNat < 0x4015 then .sprdmaWr v
  else if a.toNat < 0x4016 then .apuWr4015 v
  else if a.toNat < 0x4017 then .joy1Wr v
  else .apuWr4017 v

/-- The row of UNMAPPED_RD a read of $4018-$5FFF selects (R74, R97). -/
def unmappedRead (a : Addr) : Instr :=
  if a.toNat < 0x4020 then .unmappedRd4018 a
  else if a.toNat < 0x4040 then .unmappedRd4020 a
  else if a.toNat < 0x4080 then .unmappedRd4040 a
  else if a.toNat < 0x4100 then .unmappedRd4080 a
  else if a.toNat < 0x4200 then .unmappedRd4100 a
  else if a.toNat < 0x4400 then .unmappedRd4200 a
  else if a.toNat < 0x4800 then .unmappedRd4400 a
  else if a.toNat < 0x5000 then .unmappedRd4800 a
  else .unmappedRd5000 a

/-- The row of UNMAPPED_WR a write of $4018-$5FFF selects (R74, R97). -/
def unmappedWrite (a : Addr) (v : Byte) : Instr :=
  if a.toNat < 0x4020 then .unmappedWr4018 a v
  else if a.toNat < 0x4040 then .unmappedWr4020 a v
  else if a.toNat < 0x4080 then .unmappedWr4040 a v
  else if a.toNat < 0x4100 then .unmappedWr4080 a v
  else if a.toNat < 0x4200 then .unmappedWr4100 a v
  else if a.toNat < 0x4400 then .unmappedWr4200 a v
  else if a.toNat < 0x4800 then .unmappedWr4400 a v
  else if a.toNat < 0x5000 then .unmappedWr4800 a v
  else .unmappedWr5000 a v

/-- `decode(R, addr)` of R72. -/
def decodeRead (a : Addr) : Instr :=
  if a.toNat < 0x2000 then .ramRd a
  else if a.toNat < 0x4000 then portRead a
  else if a.toNat < 0x4018 then ioRead a
  else if a.toNat < 0x6000 then unmappedRead a
  else if a.toNat < 0x8000 then .sramRd a
  else .prgRd a

/-- `decode(W, addr)` of R72. -/
def decodeWrite (a : Addr) (v : Byte) : Instr :=
  if a.toNat < 0x2000 then .ramWr a v
  else if a.toNat < 0x4000 then portWrite a v
  else if a.toNat < 0x4018 then ioWrite a v
  else if a.toNat < 0x6000 then unmappedWrite a v
  else if a.toNat < 0x8000 then .sramWr a v
  else .prgWr a v

/-- The operation a bus access performs (R72). -/
def BusOp.decode : BusOp → Instr
  | .read a => decodeRead a
  | .write a v => decodeWrite a v

/-- The field of `len` bits of `w` whose lowest bit is bit `lo` (R8: `v[hi:lo]` is an unsigned number). -/
def OpWord.field (w : OpWord) (lo len : Nat) : Nat := w.toNat / 2 ^ lo % 2 ^ len

/-- Accept `i` if the reserved field of the format is 0 (R73: "reserved (must be 0)"). -/
def reservedZero (reserved : Nat) (i : Instr) : Except DecodeError Instr :=
  if reserved = 0 then .ok i else .error .reservedBits

/-- The operation a 32-bit word carries: the formats of R73, selected by the kind W[31:28]. -/
def decode (w : OpWord) : Except DecodeError Instr :=
  match OpWord.field w 28 4 with
  | 0 => reservedZero (OpWord.field w 24 4) (decodeRead (BitVec.ofNat 16 (OpWord.field w 8 16)))
  | 1 => reservedZero (OpWord.field w 24 4)
      (decodeWrite (BitVec.ofNat 16 (OpWord.field w 8 16)) (BitVec.ofNat 8 (OpWord.field w 0 8)))
  | 2 => reservedZero (OpWord.field w 16 12) (.tick (BitVec.ofNat 16 (OpWord.field w 0 16)))
  | 3 => reservedZero (OpWord.field w 16 12) (.nmiAck (BitVec.ofNat 16 (OpWord.field w 0 16)))
  | 4 => reservedZero (OpWord.field w 16 12) (.reset (BitVec.ofNat 16 (OpWord.field w 0 16)))
  | 5 => reservedZero (OpWord.field w 5 23)
      (.setButton (Fin.ofNat 2 (OpWord.field w 4 1)) (Fin.ofNat 8 (OpWord.field w 1 3)) (decide (OpWord.field w 0 1 = 1)))
  | 6 => reservedZero (OpWord.field w 0 28) .create
  | 7 => reservedZero (OpWord.field w 0 28) .advanceFrame
  | 8 => reservedZero (OpWord.field w 5 23)
      (.paletteQuery (if OpWord.field w 4 1 = 0 then .background else .sprite)
        (Fin.ofNat 4 (OpWord.field w 2 2)) (Fin.ofNat 4 (OpWord.field w 0 2)))
  | 9 => reservedZero (OpWord.field w 0 28) .loadCart
  | _ => .error .notAKind

/-! The encoder. -/

/-- A BUS-R word (R73: kind 0, `addr` at W[23:8], the ignored byte written as 0). -/
def busReadWord (a : Addr) : OpWord := BitVec.ofNat 32 (a.toNat * 2 ^ 8)

/-- A BUS-W word (R73: kind 1, `addr` at W[23:8], `data` at W[7:0]). -/
def busWriteWord (a : Addr) (v : Byte) : OpWord := BitVec.ofNat 32 (2 ^ 28 + a.toNat * 2 ^ 8 + v.toNat)

/-- A word of kind `kind` with the cycle count `n` at W[15:0] (R73: TICK, NMIACK, RESET). -/
def cyclesWord (kind : Nat) (n : BitVec 16) : OpWord := BitVec.ofNat 32 (kind * 2 ^ 28 + n.toNat)

/-- The area bit of a PALQ word (R73: 0 background, 1 sprite). -/
def PaletteArea.code : PaletteArea → Nat
  | .background => 0
  | .sprite => 1

/-- The word that carries an operation (R73, R84). -/
def encode : Instr → OpWord
  | .ramRd addr => busReadWord addr
  | .ramWr addr data => busWriteWord addr data
  | .ppuctrl1Rd addr => busReadWord addr
  | .ppuctrl1Wr addr data => busWriteWord addr data
  | .ppuctrl2Rd addr => busReadWord addr
  | .ppuctrl2Wr addr data => busWriteWord addr data
  | .ppustatusRd addr => busReadWord addr
  | .ppustatusWr addr data => busWriteWord addr data
  | .spraddrRd addr => busReadWord addr
  | .spraddrWr addr data => busWriteWord addr data
  | .sprdataRd addr => busReadWord addr
  | .sprdataWr addr data => busWriteWord addr data
  | .ppuscrollRd addr => busReadWord addr
  | .ppuscrollWr addr data => busWriteWord addr data
  | .ppuaddrRd addr => busReadWord addr
  | .ppuaddrWr addr data => busWriteWord addr data
  | .ppudataRd addr => busReadWord addr
  | .ppudataWr addr data => busWriteWord addr data
  | .apuRd4000 addr => busReadWord addr
  | .apuRd4010 addr => busReadWord addr
  | .apuRd4015 => busReadWord 0x4015
  | .apuWr4000 addr data => busWriteWord addr data
  | .apuWr4010 addr data => busWriteWord addr data
  | .apuWr4015 data => busWriteWord 0x4015 data
  | .apuWr4017 data => busWriteWord 0x4017 data
  | .sprdmaRd => busReadWord 0x4014
  | .sprdmaWr data => busWriteWord 0x4014 data
  | .joy1Rd => busReadWord 0x4016
  | .joy1Wr data => busWriteWord 0x4016 data
  | .joy2Rd => busReadWord 0x4017
  | .unmappedRd4018 addr => busReadWord addr
  | .unmappedRd4020 addr => busReadWord addr
  | .unmappedRd4040 addr => busReadWord addr
  | .unmappedRd4080 addr => busReadWord addr
  | .unmappedRd4100 addr => busReadWord addr
  | .unmappedRd4200 addr => busReadWord addr
  | .unmappedRd4400 addr => busReadWord addr
  | .unmappedRd4800 addr => busReadWord addr
  | .unmappedRd5000 addr => busReadWord addr
  | .unmappedWr4018 addr data => busWriteWord addr data
  | .unmappedWr4020 addr data => busWriteWord addr data
  | .unmappedWr4040 addr data => busWriteWord addr data
  | .unmappedWr4080 addr data => busWriteWord addr data
  | .unmappedWr4100 addr data => busWriteWord addr data
  | .unmappedWr4200 addr data => busWriteWord addr data
  | .unmappedWr4400 addr data => busWriteWord addr data
  | .unmappedWr4800 addr data => busWriteWord addr data
  | .unmappedWr5000 addr data => busWriteWord addr data
  | .sramRd addr => busReadWord addr
  | .sramWr addr data => busWriteWord addr data
  | .prgRd addr => busReadWord addr
  | .prgWr addr data => busWriteWord addr data
  | .tick n => cyclesWord 2 n
  | .nmiAck m => cyclesWord 3 m
  | .reset m => cyclesWord 4 m
  | .setButton c b s => BitVec.ofNat 32 (5 * 2 ^ 28 + c.val * 2 ^ 4 + b.val * 2 + s.toNat)
  | .create => 0x60000000
  | .advanceFrame => 0x70000000
  | .paletteQuery area pal color => BitVec.ofNat 32 (8 * 2 ^ 28 + area.code * 2 ^ 4 + pal.val * 2 ^ 2 + color.val)
  | .loadCart => 0x90000000

/-- One row of spec/opcode_table.json: a word selects it when `w &&& mask = pattern` (R74). -/
structure TableRow where
  pattern : OpWord
  mask : OpWord
  deriving DecidableEq, Repr

/-- The row selects the word (R74: `W & mask = match`). -/
def TableRow.selects (r : TableRow) (w : OpWord) : Bool := w &&& r.mask == r.pattern

/-- The row of spec/opcode_table.json an operation stands for, copied from the table. -/
def Instr.row : Instr → TableRow
  | .ramRd _ => ⟨0x00000000, 0xFFE00000⟩
  | .ramWr _ _ => ⟨0x10000000, 0xFFE00000⟩
  | .ppuctrl1Rd _ => ⟨0x00200000, 0xFFE00700⟩
  | .ppuctrl1Wr _ _ => ⟨0x10200000, 0xFFE00700⟩
  | .ppuctrl2Rd _ => ⟨0x00200100, 0xFFE00700⟩
  | .ppuctrl2Wr _ _ => ⟨0x10200100, 0xFFE00700⟩
  | .ppustatusRd _ => ⟨0x00200200, 0xFFE00700⟩
  | .ppustatusWr _ _ => ⟨0x10200200, 0xFFE00700⟩
  | .spraddrRd _ => ⟨0x00200300, 0xFFE00700⟩
  | .spraddrWr _ _ => ⟨0x10200300, 0xFFE00700⟩
  | .sprdataRd _ => ⟨0x00200400, 0xFFE00700⟩
  | .sprdataWr _ _ => ⟨0x10200400, 0xFFE00700⟩
  | .ppuscrollRd _ => ⟨0x00200500, 0xFFE00700⟩
  | .ppuscrollWr _ _ => ⟨0x10200500, 0xFFE00700⟩
  | .ppuaddrRd _ => ⟨0x00200600, 0xFFE00700⟩
  | .ppuaddrWr _ _ => ⟨0x10200600, 0xFFE00700⟩
  | .ppudataRd _ => ⟨0x00200700, 0xFFE00700⟩
  | .ppudataWr _ _ => ⟨0x10200700, 0xFFE00700⟩
  | .apuRd4000 _ => ⟨0x00400000, 0xFFFFF000⟩
  | .apuRd4010 _ => ⟨0x00401000, 0xFFFFFC00⟩
  | .apuRd4015 => ⟨0x00401500, 0xFFFFFF00⟩
  | .apuWr4000 _ _ => ⟨0x10400000, 0xFFFFF000⟩
  | .apuWr4010 _ _ => ⟨0x10401000, 0xFFFFFC00⟩
  | .apuWr4015 _ => ⟨0x10401500, 0xFFFFFF00⟩
  | .apuWr4017 _ => ⟨0x10401700, 0xFFFFFF00⟩
  | .sprdmaRd => ⟨0x00401400, 0xFFFFFF00⟩
  | .sprdmaWr _ => ⟨0x10401400, 0xFFFFFF00⟩
  | .joy1Rd => ⟨0x00401600, 0xFFFFFF00⟩
  | .joy1Wr _ => ⟨0x10401600, 0xFFFFFF00⟩
  | .joy2Rd => ⟨0x00401700, 0xFFFFFF00⟩
  | .unmappedRd4018 _ => ⟨0x00401800, 0xFFFFF800⟩
  | .unmappedRd4020 _ => ⟨0x00402000, 0xFFFFE000⟩
  | .unmappedRd4040 _ => ⟨0x00404000, 0xFFFFC000⟩
  | .unmappedRd4080 _ => ⟨0x00408000, 0xFFFF8000⟩
  | .unmappedRd4100 _ => ⟨0x00410000, 0xFFFF0000⟩
  | .unmappedRd4200 _ => ⟨0x00420000, 0xFFFE0000⟩
  | .unmappedRd4400 _ => ⟨0x00440000, 0xFFFC0000⟩
  | .unmappedRd4800 _ => ⟨0x00480000, 0xFFF80000⟩
  | .unmappedRd5000 _ => ⟨0x00500000, 0xFFF00000⟩
  | .unmappedWr4018 _ _ => ⟨0x10401800, 0xFFFFF800⟩
  | .unmappedWr4020 _ _ => ⟨0x10402000, 0xFFFFE000⟩
  | .unmappedWr4040 _ _ => ⟨0x10404000, 0xFFFFC000⟩
  | .unmappedWr4080 _ _ => ⟨0x10408000, 0xFFFF8000⟩
  | .unmappedWr4100 _ _ => ⟨0x10410000, 0xFFFF0000⟩
  | .unmappedWr4200 _ _ => ⟨0x10420000, 0xFFFE0000⟩
  | .unmappedWr4400 _ _ => ⟨0x10440000, 0xFFFC0000⟩
  | .unmappedWr4800 _ _ => ⟨0x10480000, 0xFFF80000⟩
  | .unmappedWr5000 _ _ => ⟨0x10500000, 0xFFF00000⟩
  | .sramRd _ => ⟨0x00600000, 0xFFE00000⟩
  | .sramWr _ _ => ⟨0x10600000, 0xFFE00000⟩
  | .prgRd _ => ⟨0x00800000, 0xFF800000⟩
  | .prgWr _ _ => ⟨0x10800000, 0xFF800000⟩
  | .tick _ => ⟨0x20000000, 0xFFFF0000⟩
  | .nmiAck _ => ⟨0x30000000, 0xFFFF0000⟩
  | .reset _ => ⟨0x40000000, 0xFFFF0000⟩
  | .setButton _ _ _ => ⟨0x50000000, 0xFFFFFFE0⟩
  | .create => ⟨0x60000000, 0xFFFFFFFF⟩
  | .advanceFrame => ⟨0x70000000, 0xFFFFFFFF⟩
  | .paletteQuery _ _ _ => ⟨0x80000000, 0xFFFFFFE0⟩
  | .loadCart => ⟨0x90000000, 0xFFFFFFFF⟩

/-- The instruction this decoder reads from the operation word whose low `nbits` bits are `w` and whose other bits are 0: an
operation is one 32-bit word and bit 0 is its least significant bit (R73, R74). -/
def decodeTableWord (nbits w : Nat) : Option Instr :=
  match decode (BitVec.ofNat 32 (w % 2 ^ nbits)) with
  | .ok i => some i
  | .error _ => none

end Sys2Proof
end

