-- ==== Sys2Proof/Config.lean ====
section
/-! DEFINITION. What the spec leaves to the cartridge, the collaborators or the implementer and does not decide (R7: the
rows marked OPEN), as constants with no body: every claim holds whatever they are. The parameters that spec/92 decides are
in Machine/Params.lean. -/

namespace Sys2Proof

/-- What one call of a CPU entry point does (R180): the bus operations it issues, in order, and the CPU cycles it returns. -/
structure CpuCall where
  accesses : List BusOp
  cycles : Nat
  deriving DecidableEq, Repr, Inhabited

/-- An RGB triple (R198). The spec gives its components no width. -/
structure Rgb where
  red : Nat
  green : Nat
  blue : Nat
  deriving DecidableEq, Repr, Inhabited

/-- SRAM_INIT (R7, R30, D19, U6), FREE VALUE: `sramInit k i` is what `sram[i]` holds after the `k`-th CREATE. Log 3. -/
opaque Config.sramInit : Nat → Nat → Byte

/-- NT_INIT (R7, R23, D19, U7), FREE VALUE: `ntInit k i` is what `name_attr[i]` holds after the `k`-th CREATE. Log 4. -/
opaque Config.ntInit : Nat → Nat → Byte

/-- RGB_TABLE (R7, R198, N12), FREE VALUE: the colour a palette byte resolves to. Log 12. -/
opaque Config.rgbTable : Byte → Rgb

/-- The CPU collaborator (R180, D32), FREE VALUE: what `cpu.step()` does on the `k`-th call that no script answers. Log 1. -/
opaque Config.cpuStep : Nat → CpuCall

/-- The CPU collaborator (R180, D32), FREE VALUE: what `cpu.nmi()` does on the `k`-th call that no script answers. Log 1. -/
opaque Config.cpuNmi : Nat → CpuCall

end Sys2Proof
end

