-- ==== Sys2Proof/Machine/State.lean ====
section
/-! DEFINITION. The state of the block (R10) as plain data, its reset value (R36), and the ways a step can stop. -/

namespace Sys2Proof.Machine

/-- A byte memory as (address, byte) cells, addresses strictly rising. Two readings of an unlisted address: a memory the spec
zeroes or fills from an image reads 0 there and never lists a 0 (`Memory.wf`); save RAM and nametable memory list exactly
what has been written since CREATE (`Memory.wfOpen`), and an unlisted address reads as the open parameter of R7. -/
abbrev Memory := List Host.Cell

/-- MIRRORING (R7, R31). -/
inductive Mirroring where
  | horizontal
  | vertical
  deriving DecidableEq, Repr

/-- `strobe_state` (R33). -/
inductive Strobe where
  | idle
  | reset
  | reading
  deriving DecidableEq, Repr

/-- The direction of a bus access in a fault record (R8: `R` or `W`). -/
inductive Dir where
  | read
  | write
  deriving DecidableEq, Repr

/-- The fault kinds of R210, codes 1, 2, 3. -/
inductive FaultKind where
  | routingFault
  | protocolFault
  | noCartridge
  deriving DecidableEq, Repr

/-- The sticky fault record `(kind, addr, dir)` (R35, R210). -/
structure FaultRecord where
  kind : FaultKind
  addr : Addr
  dir : Dir
  deriving DecidableEq, Repr

/-- The control-1 latch, field by field (R14). -/
structure Control1 where
  nmiEnabled : Bool
  spriteHeightSel : Bool
  bgPatternSel : Bool
  sprPatternSel : Bool
  vramIncSel : Bool
  baseNametable : BitVec 2
  deriving DecidableEq, Repr

/-- The control-2 (mask) latch, field by field (R15). -/
structure Control2 where
  emphasis : BitVec 3
  spritesVisible : Bool
  backgroundVisible : Bool
  spriteClip : Bool
  backgroundClip : Bool
  monochrome : Bool
  deriving DecidableEq, Repr

/-- The cartridge configuration (R31): `PRG`, `PRG_BANKS`, `CHR`, `tiles`, `MIRRORING`, `cart_loaded`. -/
structure Cart where
  prg : Memory
  prgBanks : Nat
  chr : Memory
  tiles : Memory
  mirroring : Mirroring
  loaded : Bool
  deriving DecidableEq, Repr

/-- A cartridge image, a finite byte string (R191): its length, and its bytes as a memory that reads 0 where nothing is
listed. Log 11. -/
structure Image where
  length : Nat
  bytes : Memory
  deriving DecidableEq, Repr

/-- What an UnsupportedFeature load error names (R191). -/
inductive Unsupported where
  | fourScreen
  | multiBankChr
  | noPrg
  deriving DecidableEq, Repr

/-- The load errors of R216. This model has no allocator and never returns `allocationFailure` (log 14). -/
inductive LoadError where
  | truncatedImage
  | allocationFailure
  | unsupportedFeature (what : Unsupported)
  deriving DecidableEq, Repr

/-- The result of LOAD_CART (R191): ok, with the warning TrailingBytes or without, or a load error. -/
inductive LoadResult where
  | ok (trailingBytes : Bool)
  | error (e : LoadError)
  deriving DecidableEq, Repr

/-- What an operation answers its agent: the byte of a bus read; the palette byte PALETTE_QUERY resolves (its colour is
`Output.rgb`); the result of LOAD_CART. -/
inductive Output where
  | byte (v : Byte)
  | colour (entry : Byte)
  | load (r : LoadResult)
  deriving DecidableEq, Repr

/-- What the agents outside the block have issued and will do (logs 1, 6, 10, 11): the MODEL's own fields, not the spec's. -/
structure Env where
  /-- The operation words issued and not yet performed, oldest first (R73). -/
  requests : List OpWord
  /-- The images of successive LOAD_CARTs, the side input of R73. -/
  images : List Image
  /-- What the CPU collaborator does in its next calls of `cpu.step()` (R180). -/
  cpuSteps : List CpuCall
  /-- What it does in its next calls of `cpu.nmi()`. -/
  cpuNmis : List CpuCall
  /-- The bus operations it issues in its next calls of `cpu.reset()`. -/
  cpuResets : List (List BusOp)
  /-- How many calls the free CPU of Config has answered. -/
  cpuCalls : Nat
  deriving DecidableEq, Repr

/-- The System aggregate of R10, and the model's own `outputs`, `creations` and `env`. -/
structure State where
  /-- `ram[0..0x7FF]` (R29). -/
  ram : Memory
  /-- `sram[0..0x1FFF]` (R30): the bytes written since CREATE. -/
  sram : Memory
  /-- The cartridge configuration (R31). -/
  cart : Cart
  /-- Control-1 (R14). -/
  ctrl1 : Control1
  /-- Control-2 (R15). -/
  ctrl2 : Control2
  /-- `vblank` (R17). -/
  vblank : Bool
  /-- `sprite0_hit` (R18). -/
  sprite0Hit : Bool
  /-- `sprites_lost` (R19). -/
  spritesLost : Bool
  /-- `write_count` (R20). -/
  writeCount : Bool
  /-- `scroll_x` (R21). -/
  scrollX : Byte
  /-- `scroll_y` (R21). -/
  scrollY : Byte
  /-- `vram_addr` (R22). -/
  vramAddr : VramAddr
  /-- `name_attr[0..0x7FF]` (R23): the bytes written since CREATE. -/
  nameAttr : Memory
  /-- `palette[0..31]` (R24). -/
  palette : Memory
  /-- `sprite_ram[0..255]` (R25). -/
  spriteRam : Memory
  /-- `dot` (R26). -/
  dot : Nat
  /-- `scanline` (R26). -/
  scanline : Int
  /-- `frame_count` (R26). -/
  frameCount : Nat
  /-- `cpu_cycles` (R27). -/
  cpuCycles : Nat
  /-- `nmi_pending` (R28). -/
  nmiPending : Bool
  /-- `frame_done` (R28). -/
  frameDone : Bool
  /-- `buttons[0..1][0..7]` (R32). -/
  buttons : Vector (Vector Bool 8) 2
  /-- `strobe_state` (R33). -/
  strobe : Strobe
  /-- `cursor[0..1]`, each 0..8 (R34). -/
  cursor : Vector (Fin 9) 2
  /-- `fault` (R35). -/
  fault : Option FaultRecord
  /-- What the operations have answered, newest first (log 7). -/
  outputs : List Output
  /-- How many CREATEs have run (logs 3, 4). -/
  creations : Nat
  /-- The agents' inputs. -/
  env : Env
  deriving DecidableEq, Repr

/-- Why the machine stops with no next state although the operation was accepted. A fault of the BLOCK (R210) is not one of
these: it is a next state whose `fault` is set (R214). -/
inductive Fault where
  /-- ADVANCE_FRAME has no end (R182 (d), U16): raised by `frameLoop` when its bound is used up. Safe: the machine stops
  where the spec's loop goes on; from a scan position in range it is never raised. -/
  | frameNeverEnds
  deriving DecidableEq, Repr

/-- Why an operation is refused: no next state, the state stays as it is. -/
inductive Refusal where
  /-- No meaning has been written for the instruction: raised by arms of `exec` only; safe. -/
  | notModelled (mnemonic : String)
  /-- The word is not an operation (R82 (d), U14): raised by `step`; safe. -/
  | notAnOperation (why : DecodeError)
  /-- `fault` is set and the operation is not CREATE (R35, R214, U13): raised by `accept`; safe. -/
  | faulted
  /-- NMI_ACK with `nmi_pending = 0` (R181, U15): raised by `execNmiAck`; safe. -/
  | noNmiPending
  /-- The agents have issued no further operation: the run ends here (R183 (1)): raised by `step`; safe. -/
  | noOperation
  deriving DecidableEq, Repr

/-- The agents have issued nothing and scripted nothing. -/
def Env.none : Env where
  requests := []
  images := []
  cpuSteps := []
  cpuNmis := []
  cpuResets := []
  cpuCalls := 0

/-- The cartridge configuration before any load (R31: `cart_loaded = 0` "and the others hold nothing"). MIRRORING and
PRG_BANKS are DESIGN CHOICE (log 5). -/
def Cart.none : Cart where
  prg := []
  prgBanks := 0
  chr := []
  tiles := []
  mirroring := .vertical
  loaded := false

/-- The state after CREATE, which is also the state after RESET before the reset entry cost is ticked (R36). -/
def State.reset : State where
  ram := []
  sram := []
  cart := Cart.none
  ctrl1 := ⟨false, false, false, false, false, 0⟩
  ctrl2 := ⟨0, false, false, false, false, false⟩
  vblank := false
  sprite0Hit := false
  spritesLost := false
  writeCount := false
  scrollX := 0
  scrollY := 0
  vramAddr := 0
  nameAttr := []
  palette := []
  spriteRam := []
  dot := 0
  scanline := 0
  frameCount := 0
  cpuCycles := 0
  nmiPending := false
  frameDone := false
  buttons := Vector.replicate 2 (Vector.replicate 8 false)
  strobe := .idle
  cursor := Vector.replicate 2 0
  fault := Option.none
  outputs := []
  creations := 0
  env := Env.none

end Sys2Proof.Machine
end

