-- ==== Sys2Proof/Machine/Params.lean ====
section
/-! DEFINITION. The constants of R6 and the parameters of R7 that spec/92 decides (log 13). Each meaning that depends on a
decided parameter takes it as an argument of its shared operation, so that both values have their meaning. -/

namespace Sys2Proof.Machine

/-- The two values of APU_POLICY and ROM_WRITE_POLICY (R7). -/
inductive Policy where
  | ignore
  | fault
  deriving DecidableEq, Repr

/-- APU_POLICY, decided `ignore` (R7, D2). -/
def apuPolicy : Policy := .ignore

/-- ROM_WRITE_POLICY, decided `fault` (R7, D3). -/
def romWritePolicy : Policy := .fault

/-- CTRL_OVERRUN_VALUE, decided 1 (R7, D4). -/
def ctrlOverrunValue : Byte := 1

/-- CTRL_IDLE_READ_VALUE, decided 0 (R7, D6). -/
def ctrlIdleReadValue : Byte := 0

/-- VRAM_READ_IS_PURE, decided false (R7, D12). -/
def vramReadIsPure : Bool := false

/-- RAM_SIZE (R6). -/
def ramSize : Nat := 0x800

/-- SRAM_SIZE (R6). -/
def sramSize : Nat := 0x2000

/-- PRG_BANK_SIZE (R6). -/
def prgBankSize : Nat := 0x4000

/-- CHR_BANK_SIZE (R6). -/
def chrBankSize : Nat := 0x2000

/-- TILE_BUF_SIZE (R6). -/
def tileBufSize : Nat := 32768

/-- NT_SIZE (R6). -/
def ntSize : Nat := 0x800

/-- NT_SLOT_SIZE (R6): one logical nametable, and one physical bank. -/
def ntSlotSize : Nat := 0x400

/-- ATTR_OFFSET (R6): where the attribute block begins in each bank (R23). -/
def attrOffset : Nat := 0x3C0

/-- PALETTE_SIZE (R6). -/
def paletteSize : Nat := 32

/-- SPRITE_RAM_SIZE (R6). -/
def spriteRamSize : Nat := 256

/-- BUTTONS (R6): the eight buttons of a controller. -/
inductive Button where
  | a
  | b
  | select
  | start
  | up
  | down
  | left
  | right
  deriving DecidableEq, Repr

/-- The order of BUTTONS (R6, R32, R153): A, B, Select, Start, Up, Down, Left, Right are 0 to 7. -/
def Button.index : Button → Fin 8
  | .a => 0
  | .b => 1
  | .select => 2
  | .start => 3
  | .up => 4
  | .down => 5
  | .left => 6
  | .right => 7

/-- DOTS_PER_SCANLINE (R6). -/
def dotsPerScanline : Nat := 341

/-- DOTS_PER_CPU_CYCLE (R6). -/
def dotsPerCpuCycle : Nat := 3

/-- SCANLINE_FIRST (R6). -/
def scanlineFirst : Int := -1

/-- SCANLINE_LAST (R6). -/
def scanlineLast : Int := 260

/-- VBLANK_SCANLINE (R6). -/
def vblankScanline : Int := 241

/-- DMA_CYCLES_EVEN (R6). -/
def dmaCyclesEven : Nat := 513

/-- DMA_CYCLES_ODD (R6). -/
def dmaCyclesOdd : Nat := 514

/-- The most CPU steps a frame takes when each costs at least one cycle: 262 * 341 dots, three a cycle, rounded up (R170,
R182 (d)). -/
def frameStepBound : Nat := 29781

end Sys2Proof.Machine
end

