-- ==== Sys2Proof/Machine/Ops.lean ====
section
/-! DEFINITION. The shared operations: memories, accepting an operation, answering, raising a block fault (R214), signalling
the NMI (R8, R220), and the zeroing that CREATE and RESET share (R36). -/

namespace Sys2Proof.Machine

/-! Memories. -/

/-- What an unlisted address of a zeroed or image-filled memory reads as: 0 (R29, R24, R25: reset to zero). -/
def Memory.unlisted : Byte := 0

/-- The byte listed at `a`, if one is. -/
def Memory.listed : Memory → Nat → Option Byte
  | [], _ => none
  | (k, v) :: m, a => if k = a then some v else Memory.listed m a

/-- The byte a memory with default holds at `a`. -/
def Memory.get (m : Memory) (a : Nat) : Byte := (Memory.listed m a).getD Memory.unlisted

/-- List the byte `v` at `a`, in address order. -/
def Memory.put : Memory → Nat → Byte → Memory
  | [], a, v => [(a, v)]
  | (k, w) :: m, a, v =>
    if a < k then (a, v) :: (k, w) :: m
    else if a = k then (a, v) :: m
    else (k, w) :: Memory.put m a v

/-- Take `a` off the list. -/
def Memory.drop (m : Memory) (a : Nat) : Memory := m.filter (fun c => decide (c.1 ≠ a))

/-- `x[a] <- v` on a memory with default: writing the default takes the cell off the list. -/
def Memory.set (m : Memory) (a : Nat) (v : Byte) : Memory :=
  if v = Memory.unlisted then Memory.drop m a else Memory.put m a v

/-- The `len` bytes from `base` on, as a memory of their own (R8: `x[base .. base + len - 1]`). -/
def Memory.slice (m : Memory) (base len : Nat) : Memory :=
  (m.filter (fun c => decide (base ≤ c.1) && decide (c.1 < base + len))).map (fun c => (c.1 - base, c.2))

/-- Addresses strictly rise, start at `lo` or above, and stay below `size`. -/
def Memory.rising : Memory → Nat → Nat → Bool
  | [], _, _ => true
  | (k, _) :: m, lo, size => decide (lo ≤ k) && decide (k < size) && Memory.rising m (k + 1) size

/-- The canonical form of a memory with default: rising addresses below `size`, and no cell lists what an unlisted address
reads as. -/
def Memory.wf (m : Memory) (size : Nat) : Bool :=
  Memory.rising m 0 size && m.all (fun c => decide (c.2 ≠ Memory.unlisted))

/-- The canonical form of save RAM and nametable memory, whose unlisted addresses hold an open value (R7): rising addresses
below `size`. -/
def Memory.wfOpen (m : Memory) (size : Nat) : Bool := Memory.rising m 0 size

/-- The canonical form of an image: its bytes lie below its length. -/
def Image.wf (im : Image) : Bool := Memory.wf im.bytes im.length

/-- The image of a byte list, for a host that hands over a dense one. -/
def Image.ofBytes (bs : List Byte) : Image :=
  ⟨bs.length, (bs.zipIdx.filter (fun c => decide (c.1 ≠ Memory.unlisted))).map (fun c => (c.2, c.1))⟩

/-- The byte string of length 0: what a LOAD_CART reads when the host has handed over no image (log 11). -/
def Image.empty : Image := ⟨0, []⟩

/-- `sram[i]` (R30): the byte written last, or the open SRAM_INIT (R7, U6). -/
def sramByte (s : State) (i : Nat) : Byte := (Memory.listed s.sram i).getD (Config.sramInit s.creations i)

/-- `name_attr[i]` (R23): the byte written last, or the open NT_INIT (R7, U7). -/
def nameAttrByte (s : State) (i : Nat) : Byte := (Memory.listed s.nameAttr i).getD (Config.ntInit s.creations i)

/-! Accepting, answering, faulting. -/

/-- Perform an operation with the result `t`, unless `fault` is set: then it is refused (R35, R214). -/
def accept (s t : State) : Host.Outcome State Fault Refusal :=
  if s.fault = none then .next t else .refused .faulted

/-- Give the agent that issued the operation the answer `o` (log 7). -/
def answer (o : Output) (s : State) : State := { s with outputs := o :: s.outputs }

/-- A bus read returns the byte `v`. -/
def returnByte (v : Byte) (s : State) : State := answer (.byte v) s

/-- `raise Fault(kind, addr, dir)` (R8, R214): only `fault` changes, and the operation ends. -/
def raiseFault (kind : FaultKind) (addr : Addr) (dir : Dir) (s : State) : State :=
  { s with fault := some ⟨kind, addr, dir⟩ }

/-- `signal NMI` (R8, R220). -/
def signalNmi (s : State) : State := { s with nmiPending := true }

/-- The colour triple an answer of PALETTE_QUERY resolves to (R198: `RGB_TABLE(palette[i])`). -/
def Output.rgb : Output → Option Rgb
  | .colour entry => some (Config.rgbTable entry)
  | _ => none

/-- The code of a fault kind (R210). -/
def FaultKind.code : FaultKind → Nat
  | .routingFault => 1
  | .protocolFault => 2
  | .noCartridge => 3

/-! Creation and reset. -/

/-- Zero what "is zeroed and re-initialized on both creation and explicit reset" (R36): everything but the fault record, save
RAM, nametable memory, the cartridge and the model's own fields. -/
def zeroVolatile (s : State) : State :=
  { s with
    ram := []
    ctrl1 := ⟨false, false, false, false, false, 0⟩
    ctrl2 := ⟨0, false, false, false, false, false⟩
    vblank := false
    sprite0Hit := false
    spritesLost := false
    writeCount := false
    scrollX := 0
    scrollY := 0
    vramAddr := 0
    palette := []
    spriteRam := []
    dot := 0
    scanline := 0
    frameCount := 0
    cpuCycles := 0
    nmiPending := false
    frameDone := false
    buttons := Vector.replicate 2 (Vector.replicate 8 false)
    strobe := .idle
    cursor := Vector.replicate 2 0 }

/-- The "after CREATE" values of R36: the zeroed part, no cartridge, no fault, and unspecified save RAM and nametable memory
(nothing written since this CREATE). -/
def createSystem (s : State) : State :=
  { zeroVolatile s with
    sram := []
    nameAttr := []
    cart := ⟨[], 0, [], [], .vertical, false⟩
    fault := none
    creations := s.creations + 1 }

end Sys2Proof.Machine
end

