-- ==== Sys2Proof/Machine/Operands.lean ====
section
/-! DEFINITION. Effective addresses: from a CPU address, a VRAM address or an operand to an index of a memory (R43 to R47, R56,
R57, R78, R198). -/

namespace Sys2Proof.Machine

/-- RAM: `addr & 0x7FF` (R43). -/
def ramIndex (a : Addr) : Nat := (a &&& 0x7FF#16).toNat

/-- Save RAM: `addr - 0x6000`, equivalently `addr & 0x1FFF` (R46). -/
def sramIndex (a : Addr) : Nat := (a &&& 0x1FFF#16).toNat

/-- PRG-ROM: `addr & 0x3FFF` with one bank, else `addr & 0x7FFF` (R47). -/
def prgIndex (banks : Nat) (a : Addr) : Nat :=
  if banks = 1 then (a &&& 0x3FFF#16).toNat else (a &&& 0x7FFF#16).toNat

/-- The logical nametable `a[11:10]` of a VRAM address (R56). -/
def ntSlot (a : VramAddr) : Nat := a.toNat / ntSlotSize % 4

/-- The physical bank of a slot (R56): bit 0 of the slot under vertical mirroring, bit 1 under horizontal. -/
def ntBank : Mirroring → Nat → Nat
  | .vertical, slot => slot % 2
  | .horizontal, slot => slot / 2 % 2

/-- `nt_index(a) = (bank(slot) << 10) | a[9:0]` (R56). -/
def ntIndex (mode : Mirroring) (a : VramAddr) : Nat :=
  ntBank mode (ntSlot a) * ntSlotSize + a.toNat % ntSlotSize

/-- Where the attribute block of a physical bank begins in `name_attr` (R23: +0x3C0 within its 1 KB region). -/
def attrBase (bank : Nat) : Nat := bank * ntSlotSize + attrOffset

/-- `name_attr[i]` is a byte of an attribute block, not a tile index (R23). -/
def isAttribute (i : Nat) : Bool := decide (attrOffset ≤ i % ntSlotSize)

/-- `pal_index(a)` (R57): `a & 0x1F`, with 0x10, 0x14, 0x18, 0x1C folded down by 0x10. -/
def palIndex (a : VramAddr) : Nat :=
  let i := a.toNat % 0x20
  if i = 0x10 ∨ i = 0x14 ∨ i = 0x18 ∨ i = 0x1C then i - 0x10 else i

/-- `vram_step` (R14): 1, or 32 when `vram_inc_sel = 1`. -/
def vramStep (c : Control1) : Nat := if c.vramIncSel then 32 else 1

/-- The post-access increment, modulo 0x4000 (R126). -/
def vramNext (c : Control1) (a : VramAddr) : VramAddr := a + BitVec.ofNat 14 (vramStep c)

/-- The VRAM address after a first $2006 write: `(v & 0x3F) << 8` (R78 (b), R123). -/
def vramHigh (v : Byte) : VramAddr := (v &&& 0x3F#8).setWidth 14 <<< 8

/-- The VRAM address after a second $2006 write: `vram_addr | v` (R78 (c), R123). -/
def vramLow (a : VramAddr) (v : Byte) : VramAddr := a ||| v.setWidth 14

/-- The first RAM address a sprite DMA copies: `(v & 7) << 8` (R78 (d), R140). -/
def dmaPage (v : Byte) : Nat := (v &&& 7#8).toNat * 0x100

/-- The palette index a PALETTE_QUERY resolves (R198). -/
def paletteQueryIndex (area : PaletteArea) (pal color : Fin 4) : Nat :=
  if color = 0 then 0 else area.code * 16 + pal.val * 4 + color.val

end Sys2Proof.Machine
end

