-- ==== Sys2Proof/Machine/Flags.lean ====
section
/-! DEFINITION. The status flags and the layouts of the data bytes: control-1 (R75, R111), control-2 (R76, R113), status (R77,
R114), controller read (R79). -/

namespace Sys2Proof.Machine

/-- A one-bit value as an unsigned byte (R8: `zext_8`). -/
def bitByte (b : Bool) : Byte := if b then 1 else 0

/-- The control-1 fields of a byte written to $2000 (R75, R111). -/
def control1Of (v : Byte) : Control1 where
  nmiEnabled := v.getLsbD 7
  spriteHeightSel := v.getLsbD 5
  bgPatternSel := v.getLsbD 4
  sprPatternSel := v.getLsbD 3
  vramIncSel := v.getLsbD 2
  baseNametable := v.extractLsb' 0 2

/-- The control-2 fields of a byte written to $2001 (R76, R113): the clip bits are inverted, bit 1 also drives monochrome. -/
def control2Of (v : Byte) : Control2 where
  emphasis := v.extractLsb' 5 3
  spritesVisible := v.getLsbD 4
  backgroundVisible := v.getLsbD 3
  spriteClip := !v.getLsbD 2
  backgroundClip := !v.getLsbD 1
  monochrome := v.getLsbD 1

/-- `sprite_height` (R14). -/
def Control1.spriteHeight (c : Control1) : Nat := if c.spriteHeightSel then 16 else 8

/-- `bg_pattern_base` (R14). -/
def Control1.bgPatternBase (c : Control1) : Nat := if c.bgPatternSel then 0x1000 else 0

/-- `spr_pattern_base` (R14). -/
def Control1.sprPatternBase (c : Control1) : Nat := if c.sprPatternSel then 0x1000 else 0

/-- The status byte `(vblank << 7) | (sprite0_hit << 6) | (sprites_lost << 5)` (R77, R114). -/
def statusByte (s : State) : Byte :=
  bitByte s.vblank <<< 7 ||| bitByte s.sprite0Hit <<< 6 ||| bitByte s.spritesLost <<< 5

/-- All three status flags to 0 (R114, R169). -/
def clearFlags (s : State) : State := { s with vblank := false, sprite0Hit := false, spritesLost := false }

end Sys2Proof.Machine
end

