-- ==== Sys2Proof/Machine/Controllers.lean ====
section
/-! DEFINITION. The controller ports and the buttons (spec/43: R150 to R153). -/

namespace Sys2Proof.Machine

/-- `CTRL_READ(c)` (R150): the byte is formed before the cursor moves (R65 (d)), and buttons are read live (C7). -/
def ctrlRead (c : Fin 2) (s : State) : State :=
  match s.strobe with
  | .idle => returnByte ctrlIdleReadValue s
  | .reset => returnByte (bitByte s.buttons[c][Button.a.index]) { s with cursor := s.cursor.set c 0 }
  | .reading =>
    if h : s.cursor[c].val < 8 then
      returnByte (bitByte s.buttons[c][s.cursor[c].val])
        { s with cursor := s.cursor.set c ⟨s.cursor[c].val + 1, Nat.succ_lt_succ h⟩ }
    else returnByte ctrlOverrunValue s

/-- JOY1_RD (R150): controller 1, index 0. -/
def execJoy1Rd (s : State) : Host.Outcome State Fault Refusal := accept s (ctrlRead 0 s)

/-- JOY2_RD (R151): controller 2, index 1. -/
def execJoy2Rd (s : State) : Host.Outcome State Fault Refusal := accept s (ctrlRead 1 s)

/-- The strobe (R152): a 1 enters Reset and clears both cursors; a 0 leaves Reset for Reading and is ignored elsewhere. -/
def strobeWrite (bit : Bool) (s : State) : State :=
  if bit then { s with strobe := .reset, cursor := Vector.replicate 2 0 }
  else if s.strobe = .reset then { s with strobe := .reading }
  else s

/-- JOY1_WR (R152): only bit 0 of the byte is used (D5). -/
def execJoy1Wr (data : Byte) (s : State) : Host.Outcome State Fault Refusal :=
  accept s (strobeWrite (data.getLsbD 0) s)

/-- SET_BUTTON (R153): `buttons[c][b] <- s`, the buttons numbered as `Button.index` says. -/
def execSetButton (c : Fin 2) (b : Fin 8) (pressed : Bool) (s : State) : Host.Outcome State Fault Refusal :=
  accept s { s with buttons := s.buttons.set c (s.buttons[c].set b pressed) }

end Sys2Proof.Machine
end

