-- ==== Sys2Proof/Machine/Memories.lean ====
section
/-! DEFINITION. Bus operations on system RAM, save RAM and PRG-ROM (spec/40: R90, R91, R98 to R101). -/

namespace Sys2Proof.Machine

/-- RAM_RD (R90): `return ram[addr & 0x7FF]`. -/
def execRamRd (addr : Addr) (s : State) : Host.Outcome State Fault Refusal :=
  accept s (returnByte (Memory.get s.ram (ramIndex addr)) s)

/-- RAM_WR (R91): `ram[addr & 0x7FF] <- v`. -/
def execRamWr (addr : Addr) (data : Byte) (s : State) : Host.Outcome State Fault Refusal :=
  accept s { s with ram := Memory.set s.ram (ramIndex addr) data }

/-- SRAM_RD (R98): `return sram[addr - 0x6000]`; a byte never written since CREATE is the open SRAM_INIT (U6). -/
def execSramRd (addr : Addr) (s : State) : Host.Outcome State Fault Refusal :=
  accept s (returnByte (sramByte s (sramIndex addr)) s)

/-- SRAM_WR (R99): `sram[addr - 0x6000] <- v`. -/
def execSramWr (addr : Addr) (data : Byte) (s : State) : Host.Outcome State Fault Refusal :=
  accept s { s with sram := Memory.put s.sram (sramIndex addr) data }

/-- PRG_RD (R100): NoCartridge when none is loaded, else the byte of `PRG` under the one-bank mirror. -/
def execPrgRd (addr : Addr) (s : State) : Host.Outcome State Fault Refusal :=
  accept s
    (if s.cart.loaded then returnByte (Memory.get s.cart.prg (prgIndex s.cart.prgBanks addr)) s
     else raiseFault .noCartridge addr .read s)

/-- A write to PRG-ROM under either ROM_WRITE_POLICY (R101). -/
def romWrite (policy : Policy) (addr : Addr) (s : State) : State :=
  match policy with
  | .fault => raiseFault .routingFault addr .write s
  | .ignore => s

/-- PRG_WR (R101), under the decided policy (D3); the byte written is not looked at. -/
def execPrgWr (addr : Addr) (_data : Byte) (s : State) : Host.Outcome State Fault Refusal :=
  accept s (romWrite romWritePolicy addr s)

end Sys2Proof.Machine
end

