-- ==== Sys2Proof/Machine/PpuPorts.lean ====
section
/-! DEFINITION. The eight PPU ports (spec/41: R110 to R127). -/

namespace Sys2Proof.Machine

/-- PPUCTRL1_RD (R110): "ignored (open-bus)", returns 0. -/
def execPpuctrl1Rd (_addr : Addr) (s : State) : Host.Outcome State Fault Refusal :=
  accept s (returnByte 0 s)

/-- PPUCTRL1_WR (R111): the byte is decoded into the control-1 fields. -/
def execPpuctrl1Wr (_addr : Addr) (data : Byte) (s : State) : Host.Outcome State Fault Refusal :=
  accept s { s with ctrl1 := control1Of data }

/-- PPUCTRL2_RD (R112): returns 0. -/
def execPpuctrl2Rd (_addr : Addr) (s : State) : Host.Outcome State Fault Refusal :=
  accept s (returnByte 0 s)

/-- PPUCTRL2_WR (R113): the byte is decoded into the control-2 fields. -/
def execPpuctrl2Wr (_addr : Addr) (data : Byte) (s : State) : Host.Outcome State Fault Refusal :=
  accept s { s with ctrl2 := control2Of data }

/-- PPUSTATUS_RD (R114): the flags as they were, then all three flags and the write latch to 0 (C1, R65 (a)). -/
def execPpustatusRd (_addr : Addr) (s : State) : Host.Outcome State Fault Refusal :=
  accept s (returnByte (statusByte s) { clearFlags s with writeCount := false })

/-- PPUSTATUS_WR (R115): takes a RoutingFault that names the address used. -/
def execPpustatusWr (addr : Addr) (_data : Byte) (s : State) : Host.Outcome State Fault Refusal :=
  accept s (raiseFault .routingFault addr .write s)

/-- SPRADDR_RD (R116): returns 0. -/
def execSpraddrRd (_addr : Addr) (s : State) : Host.Outcome State Fault Refusal :=
  accept s (returnByte 0 s)

/-- SPRADDR_WR (R117): nothing; the block keeps no sprite-RAM address register. -/
def execSpraddrWr (_addr : Addr) (_data : Byte) (s : State) : Host.Outcome State Fault Refusal :=
  accept s s

/-- SPRDATA_RD (R118): the stub returns 0. -/
def execSprdataRd (_addr : Addr) (s : State) : Host.Outcome State Fault Refusal :=
  accept s (returnByte 0 s)

/-- SPRDATA_WR (R119): the stub does nothing. -/
def execSprdataWr (_addr : Addr) (_data : Byte) (s : State) : Host.Outcome State Fault Refusal :=
  accept s s

/-- PPUSCROLL_RD (R120): returns 0. -/
def execPpuscrollRd (_addr : Addr) (s : State) : Host.Outcome State Fault Refusal :=
  accept s (returnByte 0 s)

/-- PPUSCROLL_WR (R121): the first write sets the horizontal scroll, the second the vertical. -/
def execPpuscrollWr (_addr : Addr) (data : Byte) (s : State) : Host.Outcome State Fault Refusal :=
  accept s
    (if s.writeCount then { s with scrollY := data, writeCount := false }
     else { s with scrollX := data, writeCount := true })

/-- PPUADDR_RD (R122): returns 0. -/
def execPpuaddrRd (_addr : Addr) (s : State) : Host.Outcome State Fault Refusal :=
  accept s (returnByte 0 s)

/-- PPUADDR_WR (R123): the first write sets the high 6 bits and clears the rest, the second ORs in the low 8. -/
def execPpuaddrWr (_addr : Addr) (data : Byte) (s : State) : Host.Outcome State Fault Refusal :=
  accept s
    (if s.writeCount then { s with vramAddr := vramLow s.vramAddr data, writeCount := false }
     else { s with vramAddr := vramHigh data, writeCount := true })

/-- The post-access increment of `vram_addr` (R126). -/
def vramAdvance (s : State) : State := { s with vramAddr := vramNext s.ctrl1 s.vramAddr }

/-- A $2007 read under either value of VRAM_READ_IS_PURE (R124): the data is always 0. -/
def vramRead (pure : Bool) (addr : Addr) (s : State) : State :=
  if pure then returnByte 0 s
  else if s.writeCount then raiseFault .protocolFault addr .read s
  else returnByte 0 (vramAdvance s)

/-- PPUDATA_RD (R124), under the decided parameter (D12). -/
def execPpudataRd (addr : Addr) (s : State) : Host.Outcome State Fault Refusal :=
  accept s (vramRead vramReadIsPure addr s)

/-- Store a byte at a PPU address (R55): palette at or above 0x3F00 (R57), nametable memory from 0x2000 (R56), discarded
below (R58). -/
def vramStore (a : VramAddr) (v : Byte) (s : State) : State :=
  if 0x3F00 ≤ a.toNat then { s with palette := Memory.set s.palette (palIndex a) v }
  else if 0x2000 ≤ a.toNat then { s with nameAttr := Memory.put s.nameAttr (ntIndex s.cart.mirroring a) v }
  else s

/-- PPUDATA_WR (R125): the latch is checked first, then the byte is stored, then the address moves on (R65 (b)). -/
def execPpudataWr (addr : Addr) (data : Byte) (s : State) : Host.Outcome State Fault Refusal :=
  accept s
    (if s.writeCount then raiseFault .protocolFault addr .write s
     else vramAdvance (vramStore s.vramAddr data s))

end Sys2Proof.Machine
end

