-- ==== Sys2Proof/Machine/SpriteDma.lean ====
section
/-! DEFINITION. Sprite DMA and its cycle steal (spec/42: R140 to R143). -/

namespace Sys2Proof.Machine

/-- The cost of a sprite DMA by the parity of the running cycle total (R142). -/
def dmaCost (cycles : Nat) : Nat := if cycles % 2 = 1 then dmaCyclesOdd else dmaCyclesEven

/-- The copy and the charge of R140: sprite RAM becomes the RAM page, the cost goes to `cpu_cycles` and three times over to
`dot`, which the next TICK folds (R143). -/
def spriteDma (v : Byte) (s : State) : State :=
  { s with
    spriteRam := Memory.slice s.ram (dmaPage v) spriteRamSize
    cpuCycles := s.cpuCycles + dmaCost s.cpuCycles
    dot := s.dot + dotsPerCpuCycle * dmaCost s.cpuCycles }

/-- SPRDMA_WR (R140). -/
def execSprdmaWr (data : Byte) (s : State) : Host.Outcome State Fault Refusal :=
  accept s (spriteDma data s)

/-- SPRDMA_RD (R141): takes a RoutingFault. -/
def execSprdmaRd (s : State) : Host.Outcome State Fault Refusal :=
  accept s (raiseFault .routingFault 0x4014 .read s)

end Sys2Proof.Machine
end

