-- ==== Sys2Proof/Machine/Unmodelled.lean ====
section
/-! DEFINITION. Bus operations on the unmodelled audio region and on unmapped space (spec/40: R95, R96, R97). -/

namespace Sys2Proof.Machine

/-- A read in the audio region under either APU_POLICY (R95): "a no-op returning 0", or a RoutingFault. -/
def apuRead (policy : Policy) (addr : Addr) (s : State) : State :=
  match policy with
  | .ignore => returnByte 0 s
  | .fault => raiseFault .routingFault addr .read s

/-- A write in the audio region, or to $4017, under either APU_POLICY (R96). -/
def apuWrite (policy : Policy) (addr : Addr) (s : State) : State :=
  match policy with
  | .ignore => s
  | .fault => raiseFault .routingFault addr .write s

/-- APU_RD_4000 (R95): reads of $4000-$400F. -/
def execApuRd4000 (addr : Addr) (s : State) : Host.Outcome State Fault Refusal :=
  accept s (apuRead apuPolicy addr s)

/-- APU_RD_4010 (R95): reads of $4010-$4013. -/
def execApuRd4010 (addr : Addr) (s : State) : Host.Outcome State Fault Refusal :=
  accept s (apuRead apuPolicy addr s)

/-- APU_RD_4015 (R95): reads of $4015. -/
def execApuRd4015 (s : State) : Host.Outcome State Fault Refusal :=
  accept s (apuRead apuPolicy 0x4015 s)

/-- APU_WR_4000 (R96): writes to $4000-$400F. -/
def execApuWr4000 (addr : Addr) (_data : Byte) (s : State) : Host.Outcome State Fault Refusal :=
  accept s (apuWrite apuPolicy addr s)

/-- APU_WR_4010 (R96): writes to $4010-$4013. -/
def execApuWr4010 (addr : Addr) (_data : Byte) (s : State) : Host.Outcome State Fault Refusal :=
  accept s (apuWrite apuPolicy addr s)

/-- APU_WR_4015 (R96): writes to $4015. -/
def execApuWr4015 (_data : Byte) (s : State) : Host.Outcome State Fault Refusal :=
  accept s (apuWrite apuPolicy 0x4015 s)

/-- APU_WR_4017 (R96): writes to $4017. -/
def execApuWr4017 (_data : Byte) (s : State) : Host.Outcome State Fault Refusal :=
  accept s (apuWrite apuPolicy 0x4017 s)

/-- UNMAPPED_RD_4018 (R97): $4018-$401F is unmapped; the operation takes a RoutingFault (R214). -/
def execUnmappedRd4018 (addr : Addr) (s : State) : Host.Outcome State Fault Refusal :=
  accept s (raiseFault .routingFault addr .read s)

/-- UNMAPPED_RD_4020 (R97): $4020-$403F is unmapped; the operation takes a RoutingFault (R214). -/
def execUnmappedRd4020 (addr : Addr) (s : State) : Host.Outcome State Fault Refusal :=
  accept s (raiseFault .routingFault addr .read s)

/-- UNMAPPED_RD_4040 (R97): $4040-$407F is unmapped; the operation takes a RoutingFault (R214). -/
def execUnmappedRd4040 (addr : Addr) (s : State) : Host.Outcome State Fault Refusal :=
  accept s (raiseFault .routingFault addr .read s)

/-- UNMAPPED_RD_4080 (R97): $4080-$40FF is unmapped; the operation takes a RoutingFault (R214). -/
def execUnmappedRd4080 (addr : Addr) (s : State) : Host.Outcome State Fault Refusal :=
  accept s (raiseFault .routingFault addr .read s)

/-- UNMAPPED_RD_4100 (R97): $4100-$41FF is unmapped; the operation takes a RoutingFault (R214). -/
def execUnmappedRd4100 (addr : Addr) (s : State) : Host.Outcome State Fault Refusal :=
  accept s (raiseFault .routingFault addr .read s)

/-- UNMAPPED_RD_4200 (R97): $4200-$43FF is unmapped; the operation takes a RoutingFault (R214). -/
def execUnmappedRd4200 (addr : Addr) (s : State) : Host.Outcome State Fault Refusal :=
  accept s (raiseFault .routingFault addr .read s)

/-- UNMAPPED_RD_4400 (R97): $4400-$47FF is unmapped; the operation takes a RoutingFault (R214). -/
def execUnmappedRd4400 (addr : Addr) (s : State) : Host.Outcome State Fault Refusal :=
  accept s (raiseFault .routingFault addr .read s)

/-- UNMAPPED_RD_4800 (R97): $4800-$4FFF is unmapped; the operation takes a RoutingFault (R214). -/
def execUnmappedRd4800 (addr : Addr) (s : State) : Host.Outcome State Fault Refusal :=
  accept s (raiseFault .routingFault addr .read s)

/-- UNMAPPED_RD_5000 (R97): $5000-$5FFF is unmapped; the operation takes a RoutingFault (R214). -/
def execUnmappedRd5000 (addr : Addr) (s : State) : Host.Outcome State Fault Refusal :=
  accept s (raiseFault .routingFault addr .read s)

/-- UNMAPPED_WR_4018 (R97): $4018-$401F is unmapped; the operation takes a RoutingFault (R214). -/
def execUnmappedWr4018 (addr : Addr) (_data : Byte) (s : State) : Host.Outcome State Fault Refusal :=
  accept s (raiseFault .routingFault addr .write s)

/-- UNMAPPED_WR_4020 (R97): $4020-$403F is unmapped; the operation takes a RoutingFault (R214). -/
def execUnmappedWr4020 (addr : Addr) (_data : Byte) (s : State) : Host.Outcome State Fault Refusal :=
  accept s (raiseFault .routingFault addr .write s)

/-- UNMAPPED_WR_4040 (R97): $4040-$407F is unmapped; the operation takes a RoutingFault (R214). -/
def execUnmappedWr4040 (addr : Addr) (_data : Byte) (s : State) : Host.Outcome State Fault Refusal :=
  accept s (raiseFault .routingFault addr .write s)

/-- UNMAPPED_WR_4080 (R97): $4080-$40FF is unmapped; the operation takes a RoutingFault (R214). -/
def execUnmappedWr4080 (addr : Addr) (_data : Byte) (s : State) : Host.Outcome State Fault Refusal :=
  accept s (raiseFault .routingFault addr .write s)

/-- UNMAPPED_WR_4100 (R97): $4100-$41FF is unmapped; the operation takes a RoutingFault (R214). -/
def execUnmappedWr4100 (addr : Addr) (_data : Byte) (s : State) : Host.Outcome State Fault Refusal :=
  accept s (raiseFault .routingFault addr .write s)

/-- UNMAPPED_WR_4200 (R97): $4200-$43FF is unmapped; the operation takes a RoutingFault (R214). -/
def execUnmappedWr4200 (addr : Addr) (_data : Byte) (s : State) : Host.Outcome State Fault Refusal :=
  accept s (raiseFault .routingFault addr .write s)

/-- UNMAPPED_WR_4400 (R97): $4400-$47FF is unmapped; the operation takes a RoutingFault (R214). -/
def execUnmappedWr4400 (addr : Addr) (_data : Byte) (s : State) : Host.Outcome State Fault Refusal :=
  accept s (raiseFault .routingFault addr .write s)

/-- UNMAPPED_WR_4800 (R97): $4800-$4FFF is unmapped; the operation takes a RoutingFault (R214). -/
def execUnmappedWr4800 (addr : Addr) (_data : Byte) (s : State) : Host.Outcome State Fault Refusal :=
  accept s (raiseFault .routingFault addr .write s)

/-- UNMAPPED_WR_5000 (R97): $5000-$5FFF is unmapped; the operation takes a RoutingFault (R214). -/
def execUnmappedWr5000 (addr : Addr) (_data : Byte) (s : State) : Host.Outcome State Fault Refusal :=
  accept s (raiseFault .routingFault addr .write s)

end Sys2Proof.Machine
end

