-- ==== Sys2Proof/Machine/Bus.lean ====
section
/-! DEFINITION. Bus accesses issued inside a longer operation: while `cpu.step()`, `cpu.nmi()` or `cpu.reset()` runs, the CPU
collaborator issues `BusRead` and `BusWrite` operations in sequence (R180), each dispatched by R72. -/

namespace Sys2Proof.Machine

/-- The effect of a bus operation, the same meaning `exec` gives it. The last eight constructors are no bus operations and
`BusOp.decode` never yields one of them. -/
def execBus (i : Instr) (s : State) : Host.Outcome State Fault Refusal :=
  match i with
  | .ramRd addr => execRamRd addr s
  | .ramWr addr data => execRamWr addr data s
  | .ppuctrl1Rd addr => execPpuctrl1Rd addr s
  | .ppuctrl1Wr addr data => execPpuctrl1Wr addr data s
  | .ppuctrl2Rd addr => execPpuctrl2Rd addr s
  | .ppuctrl2Wr addr data => execPpuctrl2Wr addr data s
  | .ppustatusRd addr => execPpustatusRd addr s
  | .ppustatusWr addr data => execPpustatusWr addr data s
  | .spraddrRd addr => execSpraddrRd addr s
  | .spraddrWr addr data => execSpraddrWr addr data s
  | .sprdataRd addr => execSprdataRd addr s
  | .sprdataWr addr data => execSprdataWr addr data s
  | .ppuscrollRd addr => execPpuscrollRd addr s
  | .ppuscrollWr addr data => execPpuscrollWr addr data s
  | .ppuaddrRd addr => execPpuaddrRd addr s
  | .ppuaddrWr addr data => execPpuaddrWr addr data s
  | .ppudataRd addr => execPpudataRd addr s
  | .ppudataWr addr data => execPpudataWr addr data s
  | .apuRd4000 addr => execApuRd4000 addr s
  | .apuRd4010 addr => execApuRd4010 addr s
  | .apuRd4015 => execApuRd4015 s
  | .apuWr4000 addr data => execApuWr4000 addr data s
  | .apuWr4010 addr data => execApuWr4010 addr data s
  | .apuWr4015 data => execApuWr4015 data s
  | .apuWr4017 data => execApuWr4017 data s
  | .sprdmaRd => execSprdmaRd s
  | .sprdmaWr data => execSprdmaWr data s
  | .joy1Rd => execJoy1Rd s
  | .joy1Wr data => execJoy1Wr data s
  | .joy2Rd => execJoy2Rd s
  | .unmappedRd4018 addr => execUnmappedRd4018 addr s
  | .unmappedRd4020 addr => execUnmappedRd4020 addr s
  | .unmappedRd4040 addr => execUnmappedRd4040 addr s
  | .unmappedRd4080 addr => execUnmappedRd4080 addr s
  | .unmappedRd4100 addr => execUnmappedRd4100 addr s
  | .unmappedRd4200 addr => execUnmappedRd4200 addr s
  | .unmappedRd4400 addr => execUnmappedRd4400 addr s
  | .unmappedRd4800 addr => execUnmappedRd4800 addr s
  | .unmappedRd5000 addr => execUnmappedRd5000 addr s
  | .unmappedWr4018 addr data => execUnmappedWr4018 addr data s
  | .unmappedWr4020 addr data => execUnmappedWr4020 addr data s
  | .unmappedWr4040 addr data => execUnmappedWr4040 addr data s
  | .unmappedWr4080 addr data => execUnmappedWr4080 addr data s
  | .unmappedWr4100 addr data => execUnmappedWr4100 addr data s
  | .unmappedWr4200 addr data => execUnmappedWr4200 addr data s
  | .unmappedWr4400 addr data => execUnmappedWr4400 addr data s
  | .unmappedWr4800 addr data => execUnmappedWr4800 addr data s
  | .unmappedWr5000 addr data => execUnmappedWr5000 addr data s
  | .sramRd addr => execSramRd addr s
  | .sramWr addr data => execSramWr addr data s
  | .prgRd addr => execPrgRd addr s
  | .prgWr addr data => execPrgWr addr data s
  | .tick _ => .next s
  | .nmiAck _ => .next s
  | .reset _ => .next s
  | .setButton _ _ _ => .next s
  | .create => .next s
  | .advanceFrame => .next s
  | .paletteQuery _ _ _ => .next s
  | .loadCart => .next s

/-- One access (R8: `BusRead(addr)`, `BusWrite(addr, v)`); an access that is refused changes nothing. -/
def performAccess (op : BusOp) (s : State) : State :=
  match execBus op.decode s with
  | .next t => t
  | .fault _ => s
  | .refused _ => s

/-- A sequence of accesses, which a block fault ends at once (R214). -/
def performAccesses : List BusOp → State → State
  | [], s => s
  | op :: ops, s => if s.fault = none then performAccesses ops (performAccess op s) else s

end Sys2Proof.Machine
end

