-- ==== Sys2Proof/Machine/Timing.lean ====
section
/-! DEFINITION. TICK: the scanline/dot counter, vblank and the sprite-zero test (spec/44: R165 to R170). -/

namespace Sys2Proof.Machine

/-- ENTER_VBLANK (R167). -/
def enterVblank (s : State) : State :=
  let t := { s with vblank := true, frameDone := true, frameCount := s.frameCount + 1 }
  if s.ctrl1.nmiEnabled then signalNmi t else t

/-- WRAP (R169): back to the pre-render scanline, flags cleared. -/
def wrapFrame (s : State) : State := { clearFlags s with scanline := scanlineFirst }

/-- One pass of FOLD's loop (R166): a scanline's worth of dots becomes one scanline, with what entering it does. -/
def nextScanline (s : State) : State :=
  let t := { s with dot := s.dot - dotsPerScanline, scanline := s.scanline + 1 }
  if t.scanline = vblankScanline then enterVblank t
  else if t.scanline = scanlineLast + 1 then wrapFrame t
  else t

/-- FOLD's loop (R166, D13), with a bound on its passes. -/
def foldLoop : Nat → State → State
  | 0, s => s
  | k + 1, s => if dotsPerScanline ≤ s.dot then foldLoop k (nextScanline s) else s

/-- FOLD (R166): `while dot >= 341`, which makes exactly `dot / 341` passes. -/
def foldDots (s : State) : State := foldLoop (s.dot / dotsPerScanline) s

/-- The scan position is inside sprite zero's box and in the tested part of the frame (R168): Y is `sprite_ram[0]`, X is
`sprite_ram[3]` (D17), natural arithmetic. -/
def spriteZeroAt (s : State) : Bool :=
  let y : Int := (Memory.get s.spriteRam 0).toNat
  let x : Nat := (Memory.get s.spriteRam 3).toNat
  decide (0 ≤ s.scanline) && decide (s.scanline ≤ 239) && decide (s.dot < 256)
    && decide (y ≤ s.scanline) && decide (s.scanline ≤ y + 7) && decide (x ≤ s.dot) && decide (s.dot ≤ x + 7)

/-- S0TEST (R168): a hit sets the flag; the flag once set stays. -/
def spriteZeroTest (s : State) : State := if spriteZeroAt s then { s with sprite0Hit := true } else s

/-- `TICK(n)` (R165): both totals advance, then FOLD, then the sprite-zero test once. -/
def tickCycles (n : Nat) (s : State) : State :=
  spriteZeroTest (foldDots { s with cpuCycles := s.cpuCycles + n, dot := s.dot + dotsPerCpuCycle * n })

/-- TICK (R165). -/
def execTick (n : BitVec 16) (s : State) : Host.Outcome State Fault Refusal :=
  accept s (tickCycles n.toNat s)

end Sys2Proof.Machine
end

