-- ==== Sys2Proof/Machine/Driver.lean ====
section
/-! DEFINITION. The frame driver: taking the NMI to the CPU (R181, R224), the reset entry (R240, R241), and the loop of
ADVANCE_FRAME (R182), over the CPU collaborator as data (R180, log 1). -/

namespace Sys2Proof.Machine

/-! The CPU collaborator's next call. -/

/-- `cpu.step()` inside ADVANCE_FRAME: the next scripted call, or the free CPU, whose step costs at least one cycle (R182 (d),
U16; logs 1, 2). -/
def callStep (s : State) : CpuCall × State :=
  match s.env.cpuSteps with
  | c :: cs => (c, { s with env := { s.env with cpuSteps := cs } })
  | [] => (⟨(Config.cpuStep s.env.cpuCalls).accesses, (Config.cpuStep s.env.cpuCalls).cycles + 1⟩,
      { s with env := { s.env with cpuCalls := s.env.cpuCalls + 1 } })

/-- `cpu.nmi()` inside ADVANCE_FRAME: the next scripted call, or the free CPU (log 1). -/
def callNmi (s : State) : CpuCall × State :=
  match s.env.cpuNmis with
  | c :: cs => (c, { s with env := { s.env with cpuNmis := cs } })
  | [] => (Config.cpuNmi s.env.cpuCalls, { s with env := { s.env with cpuCalls := s.env.cpuCalls + 1 } })

/-- The bus operations of the interrupt entry an NMI_ACK word stands for: the next scripted ones, or none (log 10). -/
def nmiAccesses (s : State) : List BusOp × State :=
  match s.env.cpuNmis with
  | c :: cs => (c.accesses, { s with env := { s.env with cpuNmis := cs } })
  | [] => ([], s)

/-- The bus operations of the reset entry a RESET word stands for: the next scripted ones, or none (log 10). -/
def resetAccesses (s : State) : List BusOp × State :=
  match s.env.cpuResets with
  | c :: cs => (c, { s with env := { s.env with cpuResets := cs } })
  | [] => ([], s)

/-! Taking the NMI, and reset. -/

/-- An entry into the CPU: its bus operations, then its cost through TICK; a block fault ends it and the cost is not ticked
(R181, R214, R240). -/
def cpuEntry (accesses : List BusOp) (m : Nat) (s : State) : State :=
  let t := performAccesses accesses s
  if t.fault = none then tickCycles m t else t

/-- NMI entry (R181, R224): `nmi_pending` is cleared, the CPU's entry runs, its cost is ticked (log 9). -/
def takeNmi (accesses : List BusOp) (m : Nat) (s : State) : State :=
  cpuEntry accesses m { s with nmiPending := false }

/-- NMI_ACK (R181): refused with no NMI pending (U15). -/
def execNmiAck (m : BitVec 16) (s : State) : Host.Outcome State Fault Refusal :=
  if s.fault = none ∧ s.nmiPending = false then .refused .noNmiPending
  else accept s (takeNmi (nmiAccesses s).1 m.toNat (nmiAccesses s).2)

/-- RESET (R240): zero what R36 zeroes, run the CPU's reset entry, tick its cost (R241). -/
def execReset (m : BitVec 16) (s : State) : Host.Outcome State Fault Refusal :=
  accept s (cpuEntry (resetAccesses s).1 m.toNat (zeroVolatile (resetAccesses s).2))

/-! The frame loop. -/

/-- `if nmi_pending = 1: m <- cpu.nmi(); NMI_ACK(m)` (R182). -/
def serviceNmi (s : State) : State :=
  if s.nmiPending then takeNmi (callNmi s).1.accesses (callNmi s).1.cycles (callNmi s).2 else s

/-- One iteration of R182's loop: step, TICK, NMI service (D33); a block fault ends it (R214). -/
def frameIteration (s : State) : State :=
  let t := performAccesses (callStep s).1.accesses (callStep s).2
  if t.fault = none then serviceNmi (tickCycles (callStep s).1.cycles t) else t

/-- `repeat … until frame_done = 1` (R182), ended by a block fault (R214), with a bound on its iterations. -/
def frameLoop : Nat → State → Host.Outcome State Fault Refusal
  | 0, _ => .fault .frameNeverEnds
  | k + 1, s =>
    let t := frameIteration s
    if t.fault = none ∧ t.frameDone = false then frameLoop k t else .next t

/-- ADVANCE_FRAME (R182). The bound is no limit: every scripted step uses one pass, and after the script each step costs at
least one cycle, so `frameStepBound` passes reach scanline 241 (log 2). -/
def execAdvanceFrame (s : State) : Host.Outcome State Fault Refusal :=
  if s.fault = none then frameLoop (s.env.cpuSteps.length + frameStepBound) { s with frameDone := false }
  else .refused .faulted

end Sys2Proof.Machine
end

