-- ==== Sys2Proof/Machine/HostOps.lean ====
section
/-! DEFINITION. The host's operations: CREATE, the cartridge loader with its tile unpacker, and the palette query (spec/45: R190
to R198). -/

namespace Sys2Proof.Machine

/-- CREATE (R190): the one operation a faulted block accepts (R214). -/
def execCreate (s : State) : Host.Outcome State Fault Refusal := .next (createSystem s)

/-! The tile unpacker. -/

/-- Pixel `k` of a tile, row `k / 8`, column `k % 8` from the left (R197): the low plane is the block's first 8 bytes, the high
plane the next 8 (D29). -/
def tilePixel (block : Memory) (k : Nat) : Byte :=
  bitByte ((Memory.get block (k / 8)).getLsbD (7 - k % 8))
    ||| bitByte ((Memory.get block (8 + k / 8)).getLsbD (7 - k % 8)) <<< 1

/-- The non-zero pixels of tile `t` of both tables (0..511: `table * 256 + tile`), at their place in `tiles` (R197). -/
def tilePixels (chr : Memory) (t : Nat) : Memory :=
  let block := Memory.slice chr (t * 16) 16
  (List.range 64).filterMap fun k =>
    if tilePixel block k = Memory.unlisted then none else some (t * 64 + k, tilePixel block k)

/-- UNPACK_TILES (R197): 2 tables of 256 tiles of 64 pixels. -/
def unpackTiles (chr : Memory) : Memory := (List.range 512).flatMap (tilePixels chr)

/-! The loader. -/

/-- The bytes before the PRG image: the header, and the 512-byte trainer if byte 6 bit 2 is set (R81, R191). -/
def prgOffset (flags : Byte) : Nat := 16 + (if flags.getLsbD 2 then 512 else 0)

/-- The bytes the header declares, with one CHR bank (R191, R195). -/
def imageNeed (flags : Byte) (prgBanks : Nat) : Nat := prgOffset flags + prgBanks * prgBankSize + chrBankSize

/-- The cartridge an accepted image gives (R191, R194, R197). -/
def cartOf (im : Image) : Cart :=
  let flags := Memory.get im.bytes 6
  let banks := (Memory.get im.bytes 4).toNat
  let chr := Memory.slice im.bytes (prgOffset flags + banks * prgBankSize) chrBankSize
  { prg := Memory.slice im.bytes (prgOffset flags) (banks * prgBankSize)
    prgBanks := banks
    chr := chr
    tiles := unpackTiles chr
    mirroring := if flags.getLsbD 0 then .vertical else .horizontal
    loaded := true }

/-- The checks of R191, in its order. -/
def loadCheck (im : Image) : LoadResult :=
  let flags := Memory.get im.bytes 6
  let prgBanks := (Memory.get im.bytes 4).toNat
  let chrBanks := (Memory.get im.bytes 5).toNat
  if im.length < 16 then .error .truncatedImage
  else if flags.getLsbD 3 then .error (.unsupportedFeature .fourScreen)
  else if 1 < chrBanks then .error (.unsupportedFeature .multiBankChr)
  else if prgBanks = 0 then .error (.unsupportedFeature .noPrg)
  else if im.length < imageNeed flags prgBanks then .error .truncatedImage
  else .ok (decide (imageNeed flags prgBanks < im.length))

/-- LOAD_CART of one image (R191): nothing but the cartridge changes, and that only on success (R196). -/
def loadImage (im : Image) (s : State) : State :=
  match loadCheck im with
  | .ok trailing => answer (.load (.ok trailing)) { s with cart := cartOf im }
  | .error e => answer (.load (.error e)) s

/-- LOAD_CART (R191): the image is the next one the host hands over, the empty one when it hands over none (log 11). -/
def execLoadCart (s : State) : Host.Outcome State Fault Refusal :=
  accept s
    (match s.env.images with
     | im :: ims => loadImage im { s with env := { s.env with images := ims } }
     | [] => loadImage Image.empty s)

/-- PALETTE_QUERY (R198): the answer is the palette byte; its colour is `Output.rgb` of the answer (log 12). -/
def execPaletteQuery (area : PaletteArea) (pal color : Fin 4) (s : State) : Host.Outcome State Fault Refusal :=
  accept s (answer (.colour (Memory.get s.palette (paletteQueryIndex area pal color))) s)

end Sys2Proof.Machine
end

