-- ==== Sys2Proof/Machine/Dispatch.lean ====
section
/-! DEFINITION. The dispatch from an operation to its meaning, one arm per constructor. -/

namespace Sys2Proof.Machine

def exec (i : Instr) (s : State) : Host.Outcome State Fault Refusal :=
  match i with
  | .ramRd addr => Sys2Proof.Machine.execRamRd addr s
  | .ramWr addr data => Sys2Proof.Machine.execRamWr addr data s
  | .ppuctrl1Rd addr => Sys2Proof.Machine.execPpuctrl1Rd addr s
  | .ppuctrl1Wr addr data => Sys2Proof.Machine.execPpuctrl1Wr addr data s
  | .ppuctrl2Rd addr => Sys2Proof.Machine.execPpuctrl2Rd addr s
  | .ppuctrl2Wr addr data => Sys2Proof.Machine.execPpuctrl2Wr addr data s
  | .ppustatusRd addr => Sys2Proof.Machine.execPpustatusRd addr s
  | .ppustatusWr addr data => Sys2Proof.Machine.execPpustatusWr addr data s
  | .spraddrRd addr => Sys2Proof.Machine.execSpraddrRd addr s
  | .spraddrWr addr data => Sys2Proof.Machine.execSpraddrWr addr data s
  | .sprdataRd addr => Sys2Proof.Machine.execSprdataRd addr s
  | .sprdataWr addr data => Sys2Proof.Machine.execSprdataWr addr data s
  | .ppuscrollRd addr => Sys2Proof.Machine.execPpuscrollRd addr s
  | .ppuscrollWr addr data => Sys2Proof.Machine.execPpuscrollWr addr data s
  | .ppuaddrRd addr => Sys2Proof.Machine.execPpuaddrRd addr s
  | .ppuaddrWr addr data => Sys2Proof.Machine.execPpuaddrWr addr data s
  | .ppudataRd addr => Sys2Proof.Machine.execPpudataRd addr s
  | .ppudataWr addr data => Sys2Proof.Machine.execPpudataWr addr data s
  | .apuRd4000 addr => Sys2Proof.Machine.execApuRd4000 addr s
  | .apuRd4010 addr => Sys2Proof.Machine.execApuRd4010 addr s
  | .apuRd4015 => Sys2Proof.Machine.execApuRd4015 s
  | .apuWr4000 addr data => Sys2Proof.Machine.execApuWr4000 addr data s
  | .apuWr4010 addr data => Sys2Proof.Machine.execApuWr4010 addr data s
  | .apuWr4015 data => Sys2Proof.Machine.execApuWr4015 data s
  | .apuWr4017 data => Sys2Proof.Machine.execApuWr4017 data s
  | .sprdmaRd => Sys2Proof.Machine.execSprdmaRd s
  | .sprdmaWr data => Sys2Proof.Machine.execSprdmaWr data s
  | .joy1Rd => Sys2Proof.Machine.execJoy1Rd s
  | .joy1Wr data => Sys2Proof.Machine.execJoy1Wr data s
  | .joy2Rd => Sys2Proof.Machine.execJoy2Rd s
  | .unmappedRd4018 addr => Sys2Proof.Machine.execUnmappedRd4018 addr s
  | .unmappedRd4020 addr => Sys2Proof.Machine.execUnmappedRd4020 addr s
  | .unmappedRd4040 addr => Sys2Proof.Machine.execUnmappedRd4040 addr s
  | .unmappedRd4080 addr => Sys2Proof.Machine.execUnmappedRd4080 addr s
  | .unmappedRd4100 addr => Sys2Proof.Machine.execUnmappedRd4100 addr s
  | .unmappedRd4200 addr => Sys2Proof.Machine.execUnmappedRd4200 addr s
  | .unmappedRd4400 addr => Sys2Proof.Machine.execUnmappedRd4400 addr s
  | .unmappedRd4800 addr => Sys2Proof.Machine.execUnmappedRd4800 addr s
  | .unmappedRd5000 addr => Sys2Proof.Machine.execUnmappedRd5000 addr s
  | .unmappedWr4018 addr data => Sys2Proof.Machine.execUnmappedWr4018 addr data s
  | .unmappedWr4020 addr data => Sys2Proof.Machine.execUnmappedWr4020 addr data s
  | .unmappedWr4040 addr data => Sys2Proof.Machine.execUnmappedWr4040 addr data s
  | .unmappedWr4080 addr data => Sys2Proof.Machine.execUnmappedWr4080 addr data s
  | .unmappedWr4100 addr data => Sys2Proof.Machine.execUnmappedWr4100 addr data s
  | .unmappedWr4200 addr data => Sys2Proof.Machine.execUnmappedWr4200 addr data s
  | .unmappedWr4400 addr data => Sys2Proof.Machine.execUnmappedWr4400 addr data s
  | .unmappedWr4800 addr data => Sys2Proof.Machine.execUnmappedWr4800 addr data s
  | .unmappedWr5000 addr data => Sys2Proof.Machine.execUnmappedWr5000 addr data s
  | .sramRd addr => Sys2Proof.Machine.execSramRd addr s
  | .sramWr addr data => Sys2Proof.Machine.execSramWr addr data s
  | .prgRd addr => Sys2Proof.Machine.execPrgRd addr s
  | .prgWr addr data => Sys2Proof.Machine.execPrgWr addr data s
  | .tick n => Sys2Proof.Machine.execTick n s
  | .nmiAck m => Sys2Proof.Machine.execNmiAck m s
  | .reset m => Sys2Proof.Machine.execReset m s
  | .setButton c b pressed => Sys2Proof.Machine.execSetButton c b pressed s
  | .create => Sys2Proof.Machine.execCreate s
  | .advanceFrame => Sys2Proof.Machine.execAdvanceFrame s
  | .paletteQuery area pal color => Sys2Proof.Machine.execPaletteQuery area pal color s
  | .loadCart => Sys2Proof.Machine.execLoadCart s

end Sys2Proof.Machine
end

