-- ==== Sys2Proof/Machine/Fetch.lean ====
section
/-! DEFINITION. The queue of issued operation words (R60, R73, log 6). -/

namespace Sys2Proof.Machine

/-- Take the oldest issued word off the queue. -/
def fetch (s : State) : Option (OpWord × State) :=
  match s.env.requests with
  | [] => none
  | w :: ws => some (w, { s with env := { s.env with requests := ws } })

/-- A CPU step long enough to reach scanline 241 from anywhere in a frame (R170). -/
def wholeFrameStep : CpuCall := ⟨[], frameStepBound⟩

/-- Issue `w` ahead of all other words. ADVANCE_FRAME takes the CPU collaborator as a side input (R73): where no CPU step is
scripted, one is handed over with the word. -/
def issue (w : OpWord) (s : State) : State :=
  { s with env := { s.env with
      requests := w :: s.env.requests
      cpuSteps := if w = 0x70000000 ∧ s.env.cpuSteps = [] then [wholeFrameStep] else s.env.cpuSteps } }

end Sys2Proof.Machine
end

