-- ==== Sys2Proof/Machine/Step.lean ====
section
/-! DEFINITION. One step: the oldest operation word the agents have issued is decoded and performed (R60, R73). -/

namespace Sys2Proof.Machine

/-- One operation (R60: one at a time, in the order issued). With none issued the run has ended (R183); a word that is no
operation is refused (R82 (d), U14). -/
def step (s : State) : Host.Outcome State Fault Refusal :=
  match fetch s with
  | none => .refused .noOperation
  | some (w, t) =>
    match decode w with
    | .ok i => exec i t
    | .error e => .refused (.notAnOperation e)

/-- `s` with the operation word `w` issued ahead of all others, and with the side input its operation takes (log 6). -/
def State.withFetchWord (s : State) (nbits w : Nat) : State := issue (BitVec.ofNat 32 (w % 2 ^ nbits)) s

end Sys2Proof.Machine
end

