-- ==== Sys2Proof/Safety.lean ====
section
/-! DEFINITION. What counts as a well-formed state and as a safe run, in the terms claims use. -/

namespace Sys2Proof.Machine

/-- Every memory is in its canonical form and within its size (R6, R10), and the images handed over are too. -/
def State.memoriesWf (s : State) : Bool :=
  Memory.wf s.ram ramSize && Memory.wfOpen s.sram sramSize
    && Memory.wf s.cart.prg (s.cart.prgBanks * prgBankSize) && Memory.wf s.cart.chr chrBankSize
    && Memory.wf s.cart.tiles tileBufSize
    && Memory.wfOpen s.nameAttr ntSize && Memory.wf s.palette paletteSize && Memory.wf s.spriteRam spriteRamSize
    && s.env.images.all Image.wf

/-- The scan position is one of the 262 scanlines (R26). -/
def State.scanlineInRange (s : State) : Prop := scanlineFirst ≤ s.scanline ∧ s.scanline ≤ scanlineLast

/-- The sprite colour-0 palette entries are never written and keep their reset value 0 (R24). -/
def State.paletteHolesZero (s : State) : Prop :=
  Memory.get s.palette 0x10 = 0 ∧ Memory.get s.palette 0x14 = 0 ∧ Memory.get s.palette 0x18 = 0 ∧ Memory.get s.palette 0x1C = 0

/-- A loaded cartridge has 1 to 255 PRG banks, and `tiles` is the unpacking of `CHR` (R31, R64, R191). -/
def State.cartConsistent (s : State) : Prop :=
  s.cart.loaded = true →
    1 ≤ s.cart.prgBanks ∧ s.cart.prgBanks ≤ 255 ∧ s.cart.tiles = unpackTiles s.cart.chr

/-- The mask latch is as reset left it, or as a $2001 write left it (R15, R252). -/
def State.maskConsistent (s : State) : Prop :=
  s.ctrl2 = ⟨0, false, false, false, false, false⟩ ∨ s.ctrl2.monochrome = !s.ctrl2.backgroundClip

/-- Outside the Reading state both cursors are 0 (R34, R150, R152). -/
def State.cursorConsistent (s : State) : Prop := s.strobe ≠ .reading → s.cursor[0] = 0 ∧ s.cursor[1] = 0

/-- What every reachable state satisfies: the memories are canonical, the scan position is in range, `sprites_lost` is 0
(R19), and the relations above hold. -/
structure State.Inv (s : State) : Prop where
  memories : s.memoriesWf = true
  scanline : s.scanlineInRange
  spritesLost : s.spritesLost = false
  paletteHoles : s.paletteHolesZero
  cart : s.cartConsistent
  mask : s.maskConsistent
  cursor : s.cursorConsistent

/-- The dots from the start of scanline -1 to the start of the current scanline (R26, R170). -/
def State.lineStart (s : State) : Int := (s.scanline + 1) * 341

/-- The dots of one frame (R170). -/
def dotsPerFrame : Int := 89342

/-- How often a scan that stands on the current scanline, with `d` dots counted from the start of that scanline, enters
scanline 241: that scanline starts 242 * 341 = 89342 - 6820 dots into the frame (R166, R170). -/
def State.entriesInto241 (s : State) (d : Nat) : Int :=
  (s.lineStart + d + 6820) / dotsPerFrame - (s.lineStart + 6820) / dotsPerFrame

/-- How often such a scan wraps from scanline 260 to -1 (R166, R169). -/
def State.wraps (s : State) (d : Nat) : Int := (s.lineStart + d) / dotsPerFrame

/-- The fault a bus access raises, if any: the complete lists of causes of R211, R212 and R213. -/
def busFault (op : BusOp) (s : State) : Option FaultRecord :=
  match op with
  | .read a =>
    if a.toNat = 0x4014 ∨ (0x4018 ≤ a.toNat ∧ a.toNat ≤ 0x5FFF) then some ⟨.routingFault, a, .read⟩
    else if 0x2000 ≤ a.toNat ∧ a.toNat ≤ 0x3FFF ∧ a.toNat % 8 = 7 ∧ s.writeCount = true then
      some ⟨.protocolFault, a, .read⟩
    else if 0x8000 ≤ a.toNat ∧ s.cart.loaded = false then some ⟨.noCartridge, a, .read⟩
    else none
  | .write a _ =>
    if (0x2000 ≤ a.toNat ∧ a.toNat ≤ 0x3FFF ∧ a.toNat % 8 = 2) ∨ (0x4018 ≤ a.toNat ∧ a.toNat ≤ 0x5FFF)
      ∨ 0x8000 ≤ a.toNat then some ⟨.routingFault, a, .write⟩
    else if 0x2000 ≤ a.toNat ∧ a.toNat ≤ 0x3FFF ∧ a.toNat % 8 = 7 ∧ s.writeCount = true then
      some ⟨.protocolFault, a, .write⟩
    else none

/-- An outcome after which the block still accepts operations: a next state with no fault set (R214). -/
def SafeOutcome (o : Host.Outcome State Fault Refusal) : Prop :=
  match o with
  | .next t => t.fault = none
  | .fault _ => False
  | .refused _ => False

end Sys2Proof.Machine
end

