-- ==== Sys2Proof/Certificates/Slice0/Obligations.lean ====
section
/-! DEFINITION. The statements for the provers. Each names the rules of spec/ it formalises. In a next state written
`{ s with … }` every field not named is unchanged: that is the statement's frame. -/

open Sys2Proof
open Sys2Proof.Machine

/-! Encoding. -/

/-- O1. Words written out from R73 and R84 (the traces of spec/95) decode to the operations they stand for, one for each
kind and several bus rows. The container is the spec's own (D25). -/
def Obligations.SampleWordsDecode : Prop :=
  decode 0x10020002 = .ok (.ramWr 0x0200 0x02) ∧ decode 0x00200200 = .ok (.ppustatusRd 0x2002)
    ∧ decode 0x00200A00 = .ok (.ppustatusRd 0x200A) ∧ decode 0x102007A1 = .ok (.ppudataWr 0x2007 0xA1)
    ∧ decode 0x10401402 = .ok (.sprdmaWr 0x02) ∧ decode 0x10401601 = .ok (.joy1Wr 0x01)
    ∧ decode 0x00401700 = .ok .joy2Rd ∧ decode 0x00FFFC00 = .ok (.prgRd 0xFFFC)
    ∧ decode 0x10600077 = .ok (.sramWr 0x6000 0x77) ∧ decode 0x00500000 = .ok (.unmappedRd5000 0x5000)
    ∧ decode 0x00401500 = .ok .apuRd4015 ∧ decode 0x2000003C = .ok (.tick 60) ∧ decode 0x30000007 = .ok (.nmiAck 7)
    ∧ decode 0x40000007 = .ok (.reset 7) ∧ decode 0x50000007 = .ok (.setButton 0 3 true)
    ∧ decode 0x60000000 = .ok .create ∧ decode 0x70000000 = .ok .advanceFrame
    ∧ decode 0x80000018 = .ok (.paletteQuery .sprite 2 0) ∧ decode 0x90000000 = .ok .loadCart

/-- O2. Decode and encode agree on every well-formed operation, every operand at every value (R73, R74; the container is the
spec's own, D25). -/
def Obligations.DecodeEncodeRoundTrip : Prop :=
  ∀ i : Instr, i.wf = true → decode (encode i) = .ok i

/-- O3. A word that decodes is the encoding of what it decodes to, but for the ignored byte of a bus read (R73, D25). -/
def Obligations.EncodeDecodeRestoresWord : Prop :=
  ∀ (w : OpWord) (i : Instr), decode w = .ok i →
    i.wf = true
      ∧ (w.toNat / 2 ^ 28 = 0 → (encode i).toNat = w.toNat / 256 * 256)
      ∧ (w.toNat / 2 ^ 28 ≠ 0 → encode i = w)

/-- O4. A word of kind 0 or 1 with W[27:24] = 0 selects exactly one row of the opcode table, the row of the operation it
decodes to (R74, which the spec derives from R72). -/
def Obligations.ExactlyOneRowMatchesBusWord : Prop :=
  ∀ w : OpWord, w.toNat / 2 ^ 28 < 2 → w.toNat / 2 ^ 24 % 16 = 0 →
    ∃ i, decode w = .ok i ∧ i.row.selects w = true ∧ ∀ j : Instr, j.row.selects w = true → j.row = i.row

/-- O5. A word whose kind is 10..15, or whose format's reserved field is not 0, is no operation (R73, R82 (d)), and a step
that meets it is refused by name (log 8). -/
def Obligations.NonOperationsAreRefused : Prop :=
  ∀ (s : State) (w : OpWord) (ws : List OpWord), s.env.requests = w :: ws →
    let kind := w.toNat / 2 ^ 28
    (10 ≤ kind → step s = .refused (.notAnOperation .notAKind))
      ∧ ((kind < 2 ∧ w.toNat / 2 ^ 24 % 16 ≠ 0)
          ∨ ((kind = 2 ∨ kind = 3 ∨ kind = 4) ∧ w.toNat / 2 ^ 16 % 2 ^ 12 ≠ 0)
          ∨ ((kind = 5 ∨ kind = 8) ∧ w.toNat / 2 ^ 5 % 2 ^ 23 ≠ 0)
          ∨ ((kind = 6 ∨ kind = 7 ∨ kind = 9) ∧ w.toNat % 2 ^ 28 ≠ 0) →
        step s = .refused (.notAnOperation .reservedBits))

/-- O6. Every address has an operation bound to it in both directions, the one its range in R41 names (R42, R72, which the spec derives
from the document's table and D1). -/
def Obligations.BusDecodeIsTotal : Prop :=
  ∀ (a : Addr) (v : Byte),
    (decodeRead a).wf = true ∧ encode (decodeRead a) = busReadWord a
      ∧ (decodeWrite a v).wf = true ∧ encode (decodeWrite a v) = busWriteWord a v

/-- O7. A step runs the decoded operation: the oldest issued word is taken off the queue and `exec` is what happens
(R60, R73; the queue is the model's, log 6). -/
def Obligations.StepRunsDecodedOperation : Prop :=
  ∀ (s : State) (w : OpWord) (ws : List OpWord) (i : Instr), s.env.requests = w :: ws → decode w = .ok i →
    step s = exec i { s with env := { s.env with requests := ws } }

/-! Faults. -/

/-- O8. While `fault` is set no operation but CREATE is accepted (R35, R214, the spec's D20). -/
def Obligations.FaultedBlockRefusesAllButCreate : Prop :=
  ∀ (i : Instr) (s : State), s.fault ≠ none → i ≠ .create → exec i s = .refused .faulted

/-- O9. Every bus access completes, and it raises exactly the fault the lists of R211, R212 and R213 give; a faulting access
changes nothing else (R214). D20 and D28 are the spec's decisions. -/
def Obligations.FaultCausesAreComplete : Prop :=
  ∀ (op : BusOp) (s : State), s.fault = none →
    ∃ t, exec op.decode s = .next t ∧ t.fault = busFault op s
      ∧ (busFault op s ≠ none → t = { s with fault := busFault op s })

/-! RAM, save RAM, PRG-ROM, the audio region, unmapped space. -/

/-- O10. RAM_RD (R90), and that every RAM byte reads 0 after CREATE, and after a RESET for which no reset entry is scripted, an
entry that then issues no bus operations: the model's choice, log 10 (a scripted entry is O46's). -/
def Obligations.RamReadReturnsMirroredByte : Prop :=
  ∀ (s : State) (addr : Addr), s.fault = none → addr.toNat < 0x2000 →
    decodeRead addr = .ramRd addr
      ∧ exec (.ramRd addr) s =
          .next { s with outputs := .byte (Memory.get s.ram (addr.toNat % 0x800)) :: s.outputs }
      ∧ (∃ t, exec .create s = .next t ∧ Memory.get t.ram (addr.toNat % 0x800) = 0)
      ∧ (∀ m, s.env.cpuResets = [] →
          ∃ t, exec (.reset m) s = .next t ∧ Memory.get t.ram (addr.toNat % 0x800) = 0)

/-- O11. RAM_WR (R91). -/
def Obligations.RamWriteStoresMirroredByte : Prop :=
  ∀ (s : State) (addr : Addr) (v : Byte), s.fault = none → addr.toNat < 0x2000 →
    decodeWrite addr v = .ramWr addr v
      ∧ ∃ m, exec (.ramWr addr v) s = .next { s with ram := m }
          ∧ ∀ i, Memory.get m i = if i = addr.toNat % 0x800 then v else Memory.get s.ram i

/-- O12. A byte written to RAM at `a` is read back at every mirror of `a`, and no other address sees it (R43). -/
def Obligations.RamMirrorsAreCoherent : Prop :=
  ∀ (s : State) (a b : Addr) (v : Byte), s.fault = none → a.toNat < 0x2000 → b.toNat < 0x2000 →
    ∃ t u, exec (decodeWrite a v) s = .next t ∧ exec (decodeRead b) t = .next u
      ∧ u.outputs = .byte (if b.toNat % 0x800 = a.toNat % 0x800 then v else Memory.get s.ram (b.toNat % 0x800)) :: s.outputs

/-- O13. SRAM_RD and SRAM_WR (R98, R99, R46): an unwritten byte reads as the open SRAM_INIT, a free value (log 3). -/
def Obligations.SaveRamReadAndWrite : Prop :=
  ∀ (s : State) (addr : Addr) (v : Byte), s.fault = none → 0x6000 ≤ addr.toNat → addr.toNat ≤ 0x7FFF →
    decodeRead addr = .sramRd addr ∧ decodeWrite addr v = .sramWr addr v
      ∧ (∃ r, exec (.sramRd addr) s = .next { s with outputs := .byte r :: s.outputs }
          ∧ (∀ w, Memory.listed s.sram (addr.toNat - 0x6000) = some w → r = w)
          ∧ (Memory.listed s.sram (addr.toNat - 0x6000) = none → r = Config.sramInit s.creations (addr.toNat - 0x6000)))
      ∧ ∃ m, exec (.sramWr addr v) s = .next { s with sram := m }
          ∧ ∀ i, Memory.listed m i = if i = addr.toNat - 0x6000 then some v else Memory.listed s.sram i

/-- O14. PRG_RD (R100, R47): the one-bank mirror, the two-bank window, and the fault without a cartridge (D28). -/
def Obligations.PrgReadMirrorsOneBank : Prop :=
  ∀ (s : State) (addr : Addr), s.fault = none → 0x8000 ≤ addr.toNat →
    decodeRead addr = .prgRd addr
      ∧ (s.cart.loaded = false → exec (.prgRd addr) s = .next { s with fault := some ⟨.noCartridge, addr, .read⟩ })
      ∧ (s.cart.loaded = true → s.cart.prgBanks = 1 → exec (.prgRd addr) s =
          .next { s with outputs := .byte (Memory.get s.cart.prg (addr.toNat % 0x4000)) :: s.outputs })
      ∧ (s.cart.loaded = true → s.cart.prgBanks ≠ 1 → exec (.prgRd addr) s =
          .next { s with outputs := .byte (Memory.get s.cart.prg (addr.toNat - 0x8000)) :: s.outputs })

/-- O15. PRG_WR under the decided ROM_WRITE_POLICY, and what the other policy gives (R101, D3). -/
def Obligations.PrgWriteFaults : Prop :=
  ∀ (s : State) (addr : Addr) (v : Byte), s.fault = none → 0x8000 ≤ addr.toNat →
    decodeWrite addr v = .prgWr addr v ∧ romWritePolicy = .fault
      ∧ exec (.prgWr addr v) s = .next { s with fault := some ⟨.routingFault, addr, .write⟩ }
      ∧ romWrite .ignore addr s = s

/-- O16. APU_RD and APU_WR in all their rows: reads return 0, writes change nothing (R95, R96, D2). -/
def Obligations.ApuRegionIsIgnored : Prop :=
  ∀ (s : State) (a : Addr) (v : Byte) (i : Instr), s.fault = none →
    (i ∈ [.apuRd4000 a, .apuRd4010 a, .apuRd4015] → exec i s = .next { s with outputs := .byte 0 :: s.outputs })
      ∧ (i ∈ [.apuWr4000 a v, .apuWr4010 a v, .apuWr4015 v, .apuWr4017 v] → exec i s = .next s)
      ∧ ((0x4000 ≤ a.toNat ∧ a.toNat ≤ 0x4013) ∨ a.toNat = 0x4015 →
          decodeRead a ∈ [.apuRd4000 a, .apuRd4010 a, .apuRd4015])
      ∧ ((0x4000 ≤ a.toNat ∧ a.toNat ≤ 0x4013) ∨ a.toNat = 0x4015 ∨ a.toNat = 0x4017 →
          decodeWrite a v ∈ [.apuWr4000 a v, .apuWr4010 a v, .apuWr4015 v, .apuWr4017 v])

/-- O17. UNMAPPED_RD and UNMAPPED_WR in all their rows take a RoutingFault that names the address and the direction, and
$4018-$5FFF decodes to them (R97). -/
def Obligations.UnmappedAccessFaults : Prop :=
  ∀ (s : State) (a : Addr) (v : Byte) (i : Instr), s.fault = none →
    let reads := [.unmappedRd4018 a, .unmappedRd4020 a, .unmappedRd4040 a, .unmappedRd4080 a, .unmappedRd4100 a,
      .unmappedRd4200 a, .unmappedRd4400 a, .unmappedRd4800 a, .unmappedRd5000 a]
    let writes := [.unmappedWr4018 a v, .unmappedWr4020 a v, .unmappedWr4040 a v, .unmappedWr4080 a v,
      .unmappedWr4100 a v, .unmappedWr4200 a v, .unmappedWr4400 a v, .unmappedWr4800 a v, .unmappedWr5000 a v]
    (i ∈ reads → exec i s = .next { s with fault := some ⟨.routingFault, a, .read⟩ })
      ∧ (i ∈ writes → exec i s = .next { s with fault := some ⟨.routingFault, a, .write⟩ })
      ∧ (0x4018 ≤ a.toNat → a.toNat ≤ 0x5FFF → decodeRead a ∈ reads ∧ decodeWrite a v ∈ writes)

/-! The PPU ports. -/

/-- O18. The reads of the write-only ports and of the $2004 stub return 0 and change nothing (R110, R112, R116, R118, R120,
R122). -/
def Obligations.WriteOnlyPortsReadZero : Prop :=
  ∀ (s : State) (a : Addr) (i : Instr), s.fault = none →
    i ∈ [.ppuctrl1Rd a, .ppuctrl2Rd a, .spraddrRd a, .sprdataRd a, .ppuscrollRd a, .ppuaddrRd a] →
      exec i s = .next { s with outputs := .byte 0 :: s.outputs }

/-- O19. The writes of the sprite-RAM address port and of the $2004 stub change nothing (R117, R119). -/
def Obligations.SpritePortWritesAreIgnored : Prop :=
  ∀ (s : State) (a : Addr) (v : Byte) (i : Instr), s.fault = none → i ∈ [.spraddrWr a v, .sprdataWr a v] →
    exec i s = .next s

/-- O20. PPUCTRL1_WR decodes the written byte bit by bit (R111, R75). -/
def Obligations.ControlOneWriteDecodesBits : Prop :=
  ∀ (s : State) (a : Addr) (v : Byte), s.fault = none →
    ∃ c, exec (.ppuctrl1Wr a v) s = .next { s with ctrl1 := c }
      ∧ (c.nmiEnabled = true ↔ v.toNat / 128 % 2 = 1) ∧ (c.spriteHeightSel = true ↔ v.toNat / 32 % 2 = 1)
      ∧ (c.bgPatternSel = true ↔ v.toNat / 16 % 2 = 1) ∧ (c.sprPatternSel = true ↔ v.toNat / 8 % 2 = 1)
      ∧ (c.vramIncSel = true ↔ v.toNat / 4 % 2 = 1) ∧ c.baseNametable.toNat = v.toNat % 4

/-- O21. PPUCTRL2_WR decodes the written byte bit by bit, the clip bits inverted, bit 1 into two flags (R113, R76). That
`monochrome` is bit 1 itself, not its inverse, is the spec's own decision D10 (log 13). -/
def Obligations.ControlTwoWriteDecodesBits : Prop :=
  ∀ (s : State) (a : Addr) (v : Byte), s.fault = none →
    ∃ c, exec (.ppuctrl2Wr a v) s = .next { s with ctrl2 := c }
      ∧ c.emphasis.toNat = v.toNat / 32 ∧ (c.spritesVisible = true ↔ v.toNat / 16 % 2 = 1)
      ∧ (c.backgroundVisible = true ↔ v.toNat / 8 % 2 = 1) ∧ (c.spriteClip = true ↔ v.toNat / 4 % 2 = 0)
      ∧ (c.backgroundClip = true ↔ v.toNat / 2 % 2 = 0) ∧ (c.monochrome = true ↔ v.toNat / 2 % 2 = 1)

/-- O22. PPUSTATUS_RD returns the flags as they were in bits 7:5 and clears all three and the write latch (R114, R77, C1). -/
def Obligations.StatusReadReturnsAndClears : Prop :=
  ∀ (s : State) (a : Addr), s.fault = none →
    ∃ r, exec (.ppustatusRd a) s = .next { s with
        vblank := false, sprite0Hit := false, spritesLost := false, writeCount := false
        outputs := .byte r :: s.outputs }
      ∧ r.toNat = s.vblank.toNat * 128 + s.sprite0Hit.toNat * 64 + s.spritesLost.toNat * 32

/-- O23. A $2002 read is the recovery from a half-written address, and a second read with no TICK between returns 0: after
one, whatever the latch was, a second read returns 0x00 and a $2007 access, write or read, does not fault (R114 (b), (c),
R251). -/
def Obligations.StatusReadRecoversLatch : Prop :=
  ∀ (s : State) (a b d : Addr) (v : Byte), s.fault = none →
    ∃ t u w x, exec (.ppustatusRd a) s = .next t
      ∧ exec (.ppustatusRd b) t = .next u ∧ u.outputs = .byte 0 :: t.outputs
      ∧ exec (.ppudataWr d v) t = .next w ∧ w.fault = none
      ∧ exec (.ppudataRd d) t = .next x ∧ x.fault = none ∧ t.vramAddr = s.vramAddr

/-- O24. PPUSTATUS_WR takes a RoutingFault that names the address used (R115). -/
def Obligations.StatusWriteFaults : Prop :=
  ∀ (s : State) (a : Addr) (v : Byte), s.fault = none →
    exec (.ppustatusWr a v) s = .next { s with fault := some ⟨.routingFault, a, .write⟩ }

/-- O25. PPUSCROLL_WR in its two stages (R121). -/
def Obligations.ScrollWriteTwoStages : Prop :=
  ∀ (s : State) (a : Addr) (v : Byte), s.fault = none →
    (s.writeCount = false → exec (.ppuscrollWr a v) s = .next { s with scrollX := v, writeCount := true })
      ∧ (s.writeCount = true → exec (.ppuscrollWr a v) s = .next { s with scrollY := v, writeCount := false })

/-- O26. PPUADDR_WR in its two stages: the high six bits, then the low eight ORed in (R123, R78 (b), (c)). That the
first write clears the low byte is the spec's inference (R123 (a)). -/
def Obligations.VramAddressWriteTwoStages : Prop :=
  ∀ (s : State) (a : Addr) (v : Byte), s.fault = none →
    (s.writeCount = false → ∃ x, exec (.ppuaddrWr a v) s = .next { s with vramAddr := x, writeCount := true }
        ∧ x.toNat = v.toNat % 64 * 256)
      ∧ (s.writeCount = true → ∃ x, exec (.ppuaddrWr a v) s = .next { s with vramAddr := x, writeCount := false }
        ∧ x.toNat = s.vramAddr.toNat ||| v.toNat)

/-- O27. The four two-write sequences over $2005 and $2006 (R127, which the spec derives). -/
def Obligations.LatchIsSharedByScrollAndAddress : Prop :=
  ∀ (s : State) (a b : Addr) (A B : Byte), s.fault = none → s.writeCount = false →
    (∃ t, exec (.ppuscrollWr a A) s = .next t
        ∧ exec (.ppuscrollWr b B) t = .next { s with scrollX := A, scrollY := B })
      ∧ (∃ t x, exec (.ppuaddrWr a A) s = .next t ∧ exec (.ppuaddrWr b B) t = .next { s with vramAddr := x }
          ∧ x.toNat = A.toNat % 64 * 256 + B.toNat)
      ∧ (∃ t x, exec (.ppuscrollWr a A) s = .next t
          ∧ exec (.ppuaddrWr b B) t = .next { s with scrollX := A, vramAddr := x }
          ∧ x.toNat = s.vramAddr.toNat ||| B.toNat)
      ∧ (∃ t x, exec (.ppuaddrWr a A) s = .next t
          ∧ exec (.ppuscrollWr b B) t = .next { s with vramAddr := x, scrollY := B }
          ∧ x.toNat = A.toNat % 64 * 256)

/-- O28. PPUDATA_RD returns 0, checks the latch and moves the address on, modulo 0x4000, as VRAM_READ_IS_PURE = false says
(R124, R126, D12). -/
def Obligations.VramReadChecksAndIncrements : Prop :=
  ∀ (s : State) (a : Addr), s.fault = none →
    (s.writeCount = true → exec (.ppudataRd a) s = .next { s with fault := some ⟨.protocolFault, a, .read⟩ })
      ∧ (s.writeCount = false → ∃ x, exec (.ppudataRd a) s = .next { s with
            vramAddr := x, outputs := .byte 0 :: s.outputs }
          ∧ x.toNat = (s.vramAddr.toNat + if s.ctrl1.vramIncSel then 32 else 1) % 0x4000)

/-- O29. PPUDATA_WR: the latch check, the three regions of the PPU space, and the increment (R125, R126, R55, R58; D20,
D31). -/
def Obligations.VramWriteStoresByRegion : Prop :=
  ∀ (s : State) (a : Addr) (v : Byte), s.fault = none →
    (s.writeCount = true → exec (.ppudataWr a v) s = .next { s with fault := some ⟨.protocolFault, a, .write⟩ })
      ∧ (s.writeCount = false → ∃ x : VramAddr,
          x.toNat = (s.vramAddr.toNat + if s.ctrl1.vramIncSel then 32 else 1) % 0x4000
          ∧ (s.vramAddr.toNat < 0x2000 → exec (.ppudataWr a v) s = .next { s with vramAddr := x })
          ∧ (0x2000 ≤ s.vramAddr.toNat → s.vramAddr.toNat < 0x3F00 →
              ∃ m, exec (.ppudataWr a v) s = .next { s with nameAttr := m, vramAddr := x }
                ∧ ∀ i, Memory.listed m i =
                    if i = ntIndex s.cart.mirroring s.vramAddr then some v else Memory.listed s.nameAttr i)
          ∧ (0x3F00 ≤ s.vramAddr.toNat →
              ∃ m, exec (.ppudataWr a v) s = .next { s with palette := m, vramAddr := x }
                ∧ ∀ i, Memory.get m i = if i = palIndex s.vramAddr then v else Memory.get s.palette i))

/-- O30. The nametable index under both mirroring modes (R56): vertical keeps the low 11 bits, horizontal takes the bank from
bit 11; it is always inside the 2 KB buffer, and the slots share banks as the rule says.
That a slot is bits 11:10 is the spec's inference. -/
def Obligations.NametableIndexFollowsMirroring : Prop :=
  ∀ a : VramAddr,
    ntIndex .vertical a = a.toNat % 0x800
      ∧ ntIndex .horizontal a = a.toNat / 0x800 % 2 * 0x400 + a.toNat % 0x400
      ∧ (∀ m, ntIndex m a < 0x800)
      ∧ (∀ b : VramAddr, b.toNat % 0x400 = a.toNat % 0x400 →
          (ntIndex .vertical a = ntIndex .vertical b ↔ ntSlot a % 2 = ntSlot b % 2)
            ∧ (ntIndex .horizontal a = ntIndex .horizontal b ↔ ntSlot a / 2 = ntSlot b / 2))

/-- O31. The palette index (R57): five bits, the sprite colour-0 entries folded down by 0x10, never one of them. -/
def Obligations.PaletteIndexFoldsColourZero : Prop :=
  ∀ a : VramAddr,
    palIndex a = (if 0x10 ≤ a.toNat % 0x20 ∧ a.toNat % 4 = 0 then a.toNat % 0x20 - 0x10 else a.toNat % 0x20)
      ∧ palIndex a ≠ 0x10 ∧ palIndex a ≠ 0x14 ∧ palIndex a ≠ 0x18 ∧ palIndex a ≠ 0x1C ∧ palIndex a < 0x20

/-! Sprite DMA and the controllers. -/

/-- O32. SPRDMA_WR copies the RAM page and charges 513 or 514 cycles by parity, three dots each, folding nothing (R140,
R142, R143; D14, D15). -/
def Obligations.SpriteDmaCopiesPageAndStealsCycles : Prop :=
  ∀ (s : State) (v : Byte), s.fault = none →
    ∃ m, exec (.sprdmaWr v) s = .next { s with
        spriteRam := m
        cpuCycles := s.cpuCycles + (if s.cpuCycles % 2 = 1 then 514 else 513)
        dot := s.dot + 3 * (if s.cpuCycles % 2 = 1 then 514 else 513) }
      ∧ ∀ i, Memory.get m i = if i < 256 then Memory.get s.ram (v.toNat % 8 * 256 + i) else 0

/-- O33. SPRDMA_RD takes a RoutingFault at 0x4014 (R141). -/
def Obligations.SpriteDmaReadFaults : Prop :=
  ∀ s : State, s.fault = none →
    exec .sprdmaRd s = .next { s with fault := some ⟨.routingFault, 0x4014, .read⟩ }

/-- O34. JOY1_RD and JOY2_RD in the three strobe states, before and past the eighth button (R150, R151, R79;
D4, D6, D7, D9). -/
def Obligations.ControllerReadByStrobeState : Prop :=
  ∀ (s : State) (c : Fin 2) (i : Instr), s.fault = none → i = (if c = 0 then .joy1Rd else .joy2Rd) →
    (s.strobe = .idle → exec i s = .next { s with outputs := .byte 0 :: s.outputs })
      ∧ (s.strobe = .reset → exec i s = .next { s with
          cursor := s.cursor.set c 0, outputs := .byte (if s.buttons[c][0] then 1 else 0) :: s.outputs })
      ∧ (∀ k : Fin 8, s.strobe = .reading → s.cursor[c].val = k.val → exec i s = .next { s with
          cursor := s.cursor.set c k.succ, outputs := .byte (if s.buttons[c][k] then 1 else 0) :: s.outputs })
      ∧ (s.strobe = .reading → s.cursor[c].val = 8 → exec i s = .next { s with outputs := .byte 1 :: s.outputs })

/-- O35. JOY1_WR, the strobe, in every cell of R152's table; only bit 0 of the byte counts (D5, D8). -/
def Obligations.StrobeWriteTransitions : Prop :=
  ∀ (s : State) (v : Byte), s.fault = none →
    (v.toNat % 2 = 1 → ∃ cs, exec (.joy1Wr v) s = .next { s with strobe := .reset, cursor := cs }
        ∧ cs[0] = 0 ∧ cs[1] = 0)
      ∧ (v.toNat % 2 = 0 → s.strobe = .reset → exec (.joy1Wr v) s = .next { s with strobe := .reading })
      ∧ (v.toNat % 2 = 0 → s.strobe ≠ .reset → exec (.joy1Wr v) s = .next s)

/-- O36. The controller protocol whole (R150, R152, the document's strobe example): from any accepting state, write 1 then 0
to $4016; then `n` reads of $4016 return the eight buttons of controller 1 in order and then 1 for ever, and the cursor stops
at 8. The document's example ends at the eighth read: that the later ones return 1 is the spec's decision D4, that a write of 0
in Reset keeps both cursors is read with D8, and that the byte is 0 or 1 is D9 (log 13). -/
def Obligations.SerialReadDeliversEightButtons : Prop :=
  ∀ (s : State) (n : Nat), s.fault = none →
    let t := performAccesses (.write 0x4016 1 :: .write 0x4016 0 :: List.replicate n (.read 0x4016)) s
    t.outputs = ((List.range n).map fun k =>
        if h : k < 8 then Output.byte (if s.buttons[0][k] then 1 else 0) else .byte 1).reverse ++ s.outputs
      ∧ t.cursor[0].val = min n 8 ∧ t.cursor[1] = 0 ∧ t.strobe = .reading ∧ t.fault = none

/-- O37. SET_BUTTON writes the one button and nothing else (R153, D34). -/
def Obligations.SetButtonWritesOneButton : Prop :=
  ∀ (s : State) (c : Fin 2) (b : Fin 8) (p : Bool), s.fault = none →
    ∃ bs, exec (.setButton c b p) s = .next { s with buttons := bs }
      ∧ ∀ (c' : Fin 2) (b' : Fin 8), bs[c'][b'] = if c' = c ∧ b' = b then p else s.buttons[c'][b']

/-! Time. -/

/-- O38. TICK adds its cycles and three dots each, leaves less than a scanline of dots, and touches nothing but the timing
state and the flags (R165, R170; that FOLD repeats is D13). -/
def Obligations.TickAdvancesTotals : Prop :=
  ∀ (s : State) (n : BitVec 16), s.fault = none →
    ∃ t, exec (.tick n) s = .next t
      ∧ t.cpuCycles = s.cpuCycles + n.toNat ∧ t.dot = (s.dot + 3 * n.toNat) % 341
      ∧ t = { s with
          dot := t.dot, scanline := t.scanline, frameCount := t.frameCount, cpuCycles := t.cpuCycles
          vblank := t.vblank, sprite0Hit := t.sprite0Hit, spritesLost := t.spritesLost
          nmiPending := t.nmiPending, frameDone := t.frameDone }

/-- O39. TICK moves the scan position by exactly three dots a cycle around the frame of 262 scanlines of 341 dots, and keeps
it in range (R165, R166, R169, R170; D13). -/
def Obligations.TickMovesScanPosition : Prop :=
  ∀ (s : State) (n : BitVec 16), s.fault = none → s.scanlineInRange →
    ∃ t, exec (.tick n) s = .next t ∧ t.scanlineInRange
      ∧ t.lineStart + t.dot = (s.lineStart + s.dot + 3 * n.toNat) % dotsPerFrame

/-- O40. What TICK does on entering scanline 241, however many frames it spans (R167, R220): the frame counter counts every
entry, `frame_done` is set by any, and the NMI is signalled by any with `nmi_enabled`
(D13, D16). -/
def Obligations.TickCountsFramesAndSignalsNmi : Prop :=
  ∀ (s : State) (n : BitVec 16), s.fault = none → s.scanlineInRange →
    ∃ t, exec (.tick n) s = .next t
      ∧ (t.frameCount : Int) = s.frameCount + s.entriesInto241 (s.dot + 3 * n.toNat)
      ∧ t.frameDone = (s.frameDone || decide (0 < s.entriesInto241 (s.dot + 3 * n.toNat)))
      ∧ t.nmiPending = (s.nmiPending || (s.ctrl1.nmiEnabled && decide (0 < s.entriesInto241 (s.dot + 3 * n.toNat))))

/-- O41. The status flags after TICK (R166 to R169): `vblank` follows the last of the entries into 241 and the wraps, the
wrap clears the other two, and the sprite-zero test at the position reached comes last (D13, D17). -/
def Obligations.TickSetsStatusFlags : Prop :=
  ∀ (s : State) (n : BitVec 16), s.fault = none → s.scanlineInRange →
    ∃ t, exec (.tick n) s = .next t
      ∧ t.vblank = (if 0 < s.entriesInto241 (s.dot + 3 * n.toNat) ∨ 0 < s.wraps (s.dot + 3 * n.toNat)
          then decide (241 ≤ t.scanline) else s.vblank)
      ∧ t.spritesLost = (if 0 < s.wraps (s.dot + 3 * n.toNat) then false else s.spritesLost)
      ∧ (t.sprite0Hit = true ↔
          (s.sprite0Hit = true ∧ ¬ 0 < s.wraps (s.dot + 3 * n.toNat))
            ∨ (0 ≤ t.scanline ∧ t.scanline ≤ 239 ∧ t.dot < 256
              ∧ ((Memory.get s.spriteRam 0).toNat : Int) ≤ t.scanline
              ∧ t.scanline ≤ (Memory.get s.spriteRam 0).toNat + 7
              ∧ (Memory.get s.spriteRam 3).toNat ≤ t.dot ∧ t.dot ≤ (Memory.get s.spriteRam 3).toNat + 7))

/-- O42. NMI_ACK (R181, R224): refused with no NMI pending; else the pending bit is cleared, the CPU's entry runs (its
scripted bus operations, none without a script: log 10) and its cost passes as a TICK; a block fault in the entry ends it
(D23; log 9). -/
def Obligations.NmiAckTakesPendingNmi : Prop :=
  ∀ (s : State) (m : BitVec 16), s.fault = none →
    (s.nmiPending = false → exec (.nmiAck m) s = .refused .noNmiPending)
      ∧ (s.nmiPending = true → s.env.cpuNmis = [] →
          ∃ t, exec (.nmiAck m) s = .next t ∧ exec (.tick m) { s with nmiPending := false } = .next t)
      ∧ (∀ c cs, s.nmiPending = true → s.env.cpuNmis = c :: cs →
          let u := performAccesses c.accesses { s with nmiPending := false, env := { s.env with cpuNmis := cs } }
          (u.fault = none → ∃ t, exec (.nmiAck m) s = .next t ∧ exec (.tick m) u = .next t)
            ∧ (u.fault ≠ none → exec (.nmiAck m) s = .next u))

/-- O43. ADVANCE_FRAME always comes to an end (R182 (d)): from a scan position in range it answers a next state, and unless a
bus operation faulted, scanline 241 has been entered. The free CPU's step costs at least one cycle (log 2). -/
def Obligations.AdvanceFrameCompletes : Prop :=
  ∀ s : State, s.fault = none → s.scanlineInRange →
    ∃ t, exec .advanceFrame s = .next t
      ∧ (t.fault = none → t.frameDone = true ∧ s.frameCount < t.frameCount)

/-- O44. ADVANCE_FRAME runs R182's loop one CPU step at a time: step, TICK, NMI entry when pending, until `frame_done`. With a
scripted step whose bus operations do not fault, an iteration that leaves `frame_done` clear is followed by the rest of the
loop, and one that sets it is the last (the order is D33; the script is the model's, log 1). -/
def Obligations.AdvanceFrameUnrolls : Prop :=
  ∀ (s : State) (c : CpuCall) (cs : List CpuCall), s.fault = none → s.env.cpuSteps = c :: cs →
    let u := performAccesses c.accesses { s with frameDone := false, env := { s.env with cpuSteps := cs } }
    let v := tickCycles c.cycles u
    (u.fault ≠ none → exec .advanceFrame s = .next u)
      ∧ (u.fault = none → v.nmiPending = false → v.frameDone = true → exec .advanceFrame s = .next v)
      ∧ (u.fault = none → v.nmiPending = false → v.frameDone = false → exec .advanceFrame s = exec .advanceFrame v)
      ∧ (∀ d ds, u.fault = none → v.nmiPending = true → v.env.cpuNmis = d :: ds →
          let x := cpuEntry d.accesses d.cycles { v with nmiPending := false, env := { v.env with cpuNmis := ds } }
          (x.fault ≠ none ∨ x.frameDone = true → exec .advanceFrame s = .next x)
            ∧ (x.fault = none → x.frameDone = false → exec .advanceFrame s = exec .advanceFrame x))

/-! The host's operations. -/

/-- O45. CREATE begins a new system in any state, a faulted one too (R190, R36); the agents' inputs and answers stay
(logs 7, 16). Open memories are free again (logs 3, 4); all zero is the spec's D18; that MIRRORING is Vertical, PRG_BANKS 0 and
the images empty before a load is the model's choice (log 5). -/
def Obligations.CreateBeginsNewSystem : Prop :=
  ∀ s : State, exec .create s = .next { State.reset with
    outputs := s.outputs, creations := s.creations + 1, env := s.env }

/-- O46. RESET (R240, R241, R36): everything but save RAM, nametable memory and the cartridge is zeroed, the CPU's reset entry
runs (its scripted bus operations, none without a script: log 10) and its cost passes as a TICK; a block fault ends it (D18, D19,
D23; the model's own fields stay, log 16). -/
def Obligations.ResetZeroesAndTicksEntryCost : Prop :=
  ∀ (s : State) (m : BitVec 16), s.fault = none →
    (s.env.cpuResets = [] →
      ∃ t, exec (.reset m) s = .next t
        ∧ exec (.tick m) { State.reset with
            sram := s.sram, cart := s.cart, nameAttr := s.nameAttr, outputs := s.outputs, creations := s.creations
            env := s.env } = .next t)
      ∧ (∀ c cs, s.env.cpuResets = c :: cs →
          let u := performAccesses c { State.reset with
            sram := s.sram, cart := s.cart, nameAttr := s.nameAttr, outputs := s.outputs, creations := s.creations
            env := { s.env with cpuResets := cs } }
          (u.fault = none → ∃ t, exec (.reset m) s = .next t ∧ exec (.tick m) u = .next t)
            ∧ (u.fault ≠ none → exec (.reset m) s = .next u))

/-- O47. A reset entry of less than a scanline (R241, R253 (b)): both totals get the cost, the scan stays on scanline 0, and
the zero sprite's box is hit exactly by costs 0, 1 and 2. It holds where no reset entry is
scripted, an entry that then issues no bus operations: the model's choice, log 10 (a scripted entry is O46's). The scan starting
at scanline 0, dot 0 is the spec's D18, the box its D17, the cost passing as a TICK its D23. -/
def Obligations.ShortResetEntryCost : Prop :=
  ∀ (s : State) (m : BitVec 16), s.fault = none → s.env.cpuResets = [] → m.toNat < 114 →
    ∃ t, exec (.reset m) s = .next t ∧ t.cpuCycles = m.toNat ∧ t.dot = 3 * m.toNat ∧ t.scanline = 0
      ∧ t.sprite0Hit = decide (m.toNat ≤ 2) ∧ t.vblank = false ∧ t.nmiPending = false ∧ t.frameCount = 0

/-- O48. The reset values of R36 (the elements to which the rule gives one; D18). -/
def Obligations.ResetStateValues : Prop :=
  let r := State.reset
  (∀ i, Memory.get r.ram i = 0) ∧ (∀ i, Memory.get r.palette i = 0) ∧ (∀ i, Memory.get r.spriteRam i = 0)
    ∧ r.cart.loaded = false ∧ r.ctrl1 = ⟨false, false, false, false, false, 0⟩
    ∧ r.ctrl2 = ⟨0, false, false, false, false, false⟩ ∧ r.vblank = false ∧ r.sprite0Hit = false
    ∧ r.spritesLost = false ∧ r.writeCount = false ∧ r.scrollX = 0 ∧ r.scrollY = 0 ∧ r.vramAddr = 0
    ∧ r.dot = 0 ∧ r.scanline = 0 ∧ r.frameCount = 0 ∧ r.cpuCycles = 0 ∧ r.nmiPending = false ∧ r.frameDone = false
    ∧ (∀ (c : Fin 2) (b : Fin 8), r.buttons[c][b] = false) ∧ r.strobe = .idle
    ∧ r.cursor[0] = 0 ∧ r.cursor[1] = 0 ∧ r.fault = none

/-- O49. A successful LOAD_CART (R191 to R195): the images, the bank count, the mirroring and the tiles come from the image,
the warning says whether bytes trail, and nothing else changes (D27, D35; log 11). That an
image of the right shape always loads rests on log 14: LOAD_CART never returns AllocationFailure. -/
def Obligations.LoadCartCommitsImage : Prop :=
  ∀ (s : State) (im : Image) (ims : List Image), s.fault = none → s.env.images = im :: ims →
    let h4 := (Memory.get im.bytes 4).toNat
    let h5 := (Memory.get im.bytes 5).toNat
    let h6 := (Memory.get im.bytes 6).toNat
    let off := 16 + (if h6 / 4 % 2 = 1 then 512 else 0)
    let need := off + h4 * 0x4000 + 0x2000
    16 ≤ im.length → h6 / 8 % 2 = 0 → h5 ≤ 1 → h4 ≠ 0 → need ≤ im.length →
      ∃ c, exec .loadCart s = .next { s with
          cart := c
          env := { s.env with images := ims }
          outputs := .load (.ok (decide (need < im.length))) :: s.outputs }
        ∧ c.loaded = true ∧ c.prgBanks = h4
        ∧ c.mirroring = (if h6 % 2 = 1 then .vertical else .horizontal)
        ∧ (∀ i, i < h4 * 0x4000 → Memory.get c.prg i = Memory.get im.bytes (off + i))
        ∧ (∀ i, i < 0x2000 → Memory.get c.chr i = Memory.get im.bytes (off + h4 * 0x4000 + i))
        ∧ c.tiles = unpackTiles c.chr

/-- O50. A failed LOAD_CART (R191, R193 to R196, R216): the errors in the rule's order, and no state but the answer and the
image queue changes; with no image handed over, the empty one fails (logs 11, 14; D27, D35). -/
def Obligations.FailedLoadChangesNothing : Prop :=
  ∀ (s : State), s.fault = none →
    (s.env.images = [] → exec .loadCart s = .next { s with outputs := .load (.error .truncatedImage) :: s.outputs })
      ∧ ∀ (im : Image) (ims : List Image), s.env.images = im :: ims →
        let h4 := (Memory.get im.bytes 4).toNat
        let h5 := (Memory.get im.bytes 5).toNat
        let h6 := (Memory.get im.bytes 6).toNat
        let need := 16 + (if h6 / 4 % 2 = 1 then 512 else 0) + h4 * 0x4000 + 0x2000
        let fails := fun e => exec .loadCart s = .next { s with
          env := { s.env with images := ims }, outputs := .load (.error e) :: s.outputs }
        (im.length < 16 → fails .truncatedImage)
          ∧ (16 ≤ im.length → h6 / 8 % 2 = 1 → fails (.unsupportedFeature .fourScreen))
          ∧ (16 ≤ im.length → h6 / 8 % 2 = 0 → 1 < h5 → fails (.unsupportedFeature .multiBankChr))
          ∧ (16 ≤ im.length → h6 / 8 % 2 = 0 → h5 ≤ 1 → h4 = 0 → fails (.unsupportedFeature .noPrg))
          ∧ (16 ≤ im.length → h6 / 8 % 2 = 0 → h5 ≤ 1 → h4 ≠ 0 → im.length < need → fails .truncatedImage)

/-- O51. UNPACK_TILES pixel by pixel (R197, D29). -/
def Obligations.UnpackTilesPixelByPixel : Prop :=
  ∀ (chr : Memory) (table t row x : Nat), table < 2 → t < 256 → row < 8 → x < 8 →
    (Memory.get (unpackTiles chr) (table * 16384 + t * 64 + row * 8 + x)).toNat =
      (Memory.get chr (table * 0x1000 + t * 16 + row)).toNat / 2 ^ (7 - x) % 2
        + 2 * ((Memory.get chr (table * 0x1000 + t * 16 + 8 + row)).toNat / 2 ^ (7 - x) % 2)

/-- O52. PALETTE_QUERY answers the palette byte of R198's index, colour 0 always through entry 0, and its colour is RGB_TABLE of
that byte (D30; log 12). -/
def Obligations.PaletteQueryResolvesEntry : Prop :=
  ∀ (s : State) (area : PaletteArea) (pal color : Fin 4), s.fault = none →
    ∃ e, exec (.paletteQuery area pal color) s = .next { s with outputs := .colour e :: s.outputs }
      ∧ e = Memory.get s.palette
          (if color.val = 0 then 0 else (if area = .sprite then 16 else 0) + pal.val * 4 + color.val)
      ∧ (Output.colour e).rgb = some (Config.rgbTable e)

/-! Whole-machine rules. -/

/-- O53. Bus operations do not move time, but for the cycles the $4014 write steals (R60 (3), (4), R52): whatever the access, the
scan line, the frame counter, the NMI and frame signals, the buttons, the cartridge and the agents' inputs stay, and no status
flag is set; `dot` and `cpu_cycles` stay too unless the access is the $4014 write (what that adds is O32's). That the scan line
stays after that write is the spec's decision D14 (log 13). -/
def Obligations.BusOperationsDoNotMoveTime : Prop :=
  ∀ (op : BusOp) (s : State), s.fault = none →
    ∃ t, exec op.decode s = .next t
      ∧ t.scanline = s.scanline ∧ t.frameCount = s.frameCount ∧ t.nmiPending = s.nmiPending
      ∧ t.frameDone = s.frameDone ∧ t.buttons = s.buttons ∧ t.cart = s.cart ∧ t.env = s.env
      ∧ t.creations = s.creations ∧ (t.vblank = true → s.vblank = true)
      ∧ (t.sprite0Hit = true → s.sprite0Hit = true) ∧ (t.spritesLost = true → s.spritesLost = true)
      ∧ ((∀ v, op ≠ .write 0x4014 v) → t.dot = s.dot ∧ t.cpuCycles = s.cpuCycles)

/-- O54. The cartridge configuration is written by LOAD_CART only (and emptied by CREATE): no other operation changes it, with
any CPU behaviour inside ADVANCE_FRAME, NMI_ACK and RESET (R31). -/
def Obligations.CartridgeChangesOnlyByLoad : Prop :=
  ∀ (i : Instr) (s t : State), i ≠ .loadCart → i ≠ .create → exec i s = .next t → t.cart = s.cart

/-- O55. The invariant holds at reset. -/
def Obligations.InvariantHoldsAtReset : Prop := State.reset.Inv

/-- O56. Every step keeps the invariant: canonical memories, the scan line in -1..260, `sprites_lost` 0, the sprite colour-0
palette entries 0, a consistent cartridge, mask latch and cursors (R19, R24, R26, R31, R34, R64, R252). -/
def Obligations.StepKeepsInvariant : Prop :=
  ∀ s t : State, s.Inv → step s = .next t → t.Inv

/-- O57. Equal memories are equal data: two canonical memories that read the same everywhere are the same list. -/
def Obligations.CanonicalMemoriesAreEqual : Prop :=
  ∀ (m n : Memory) (size : Nat), Memory.wf m size = true → Memory.wf n size = true →
    (∀ a, Memory.get m a = Memory.get n a) → m = n

/-- O58. The port window: an address in $2000-$3FFF reaches the port of its low three bits, in both directions (R45, R72; that
the window ends at $3FFF is the spec's D1). -/
def Obligations.PortWindowDecodesByLowThreeBits : Prop :=
  ∀ (a : Addr) (v : Byte), 0x2000 ≤ a.toNat → a.toNat ≤ 0x3FFF →
    some (decodeRead a) = [.ppuctrl1Rd a, .ppuctrl2Rd a, .ppustatusRd a, .spraddrRd a, .sprdataRd a, .ppuscrollRd a,
        .ppuaddrRd a, .ppudataRd a][a.toNat % 8]?
      ∧ some (decodeWrite a v) = [.ppuctrl1Wr a v, .ppuctrl2Wr a v, .ppustatusWr a v, .spraddrWr a v, .sprdataWr a v,
        .ppuscrollWr a v, .ppuaddrWr a v, .ppudataWr a v][a.toNat % 8]?

/-- O59. The attribute blocks (R6, R23): the byte of PPU address `a` goes to the attribute block of its bank exactly when `a` is
0x3C0 or more into its slot, at the same distance from the block's start; the two blocks are 0x3C0..0x3FF and 0x7C0..0x7FF. -/
def Obligations.AttributeBlockClosesEachBank : Prop :=
  (∀ (m : Mirroring) (a : VramAddr),
      (isAttribute (ntIndex m a) = true ↔ 0x3C0 ≤ a.toNat % 0x400)
        ∧ (∀ k, k < 0x40 → a.toNat % 0x400 = 0x3C0 + k → ntIndex m a = attrBase (ntBank m (ntSlot a)) + k))
    ∧ ∀ i, i < 0x800 →
        (isAttribute i = true ↔ (attrBase 0 ≤ i ∧ i < attrBase 0 + 0x40) ∨ (attrBase 1 ≤ i ∧ i < attrBase 1 + 0x40))

/-- O60. The serial order is A, B, Select, Start, Up, Down, Left, Right (R6, R153): with `u` the one button pressed on controller
1 (no other, before), strobing and reading $4016 `k + 1` times returns 1 last exactly if `u` is button number `k`. The strobe's
cells are D5 and D8, the byte D9. -/
def Obligations.ButtonsAreReadInOrder : Prop :=
  (∀ k : Fin 8, ∃ u : Button, u.index = k)
    ∧ [Button.a, .b, .select, .start, .up, .down, .left, .right].map (fun u => u.index.val) = List.range 8
    ∧ ∀ (s : State) (u : Button) (k : Fin 8), s.fault = none → (∀ j : Fin 8, s.buttons[0][j] = false) →
        ∃ t, exec (.setButton 0 u.index true) s = .next t
          ∧ (performAccesses (.write 0x4016 1 :: .write 0x4016 0 :: List.replicate (k.val + 1) (.read 0x4016)) t).outputs.head?
              = some (.byte (if k = u.index then 1 else 0))
end

