-- ==== Sys2Proof/Laws/Memory.lean ====
section
/-! SUPPORT. The laws of memories: what a read sees after each operation (in any list), and that every operation keeps the
canonical form. -/

namespace Sys2Proof.Machine

/-! Reads after writes. -/

@[simp] theorem Memory.listed_nil (a : Nat) : Memory.listed [] a = none := rfl

@[simp] theorem Memory.get_nil (a : Nat) : Memory.get [] a = 0 := rfl

theorem Memory.listed_put (m : Memory) (a b : Nat) (v : Byte) :
    Memory.listed (Memory.put m a v) b = if b = a then some v else Memory.listed m b := by
  induction m with
  | nil => simp only [Memory.put, Memory.listed, eq_comm]
  | cons c m ih =>
    obtain ⟨k, w⟩ := c
    by_cases hlt : a < k
    · simp only [Memory.put, hlt, if_true, Memory.listed, eq_comm (a := a)]
    · by_cases heq : a = k
      · subst heq
        by_cases hb : a = b
        · simp [Memory.put, Memory.listed, hb]
        · simp [Memory.put, Memory.listed, hb, Ne.symm hb]
      · simp only [Memory.put, hlt, heq, if_false, Memory.listed, ih]
        by_cases hk : k = b
        · subst hk; simp [Ne.symm heq]
        · simp [hk]

theorem Memory.listed_drop (m : Memory) (a b : Nat) :
    Memory.listed (Memory.drop m a) b = if b = a then none else Memory.listed m b := by
  induction m with
  | nil => simp [Memory.drop, Memory.listed]
  | cons c m ih =>
    obtain ⟨k, w⟩ := c
    simp only [Memory.drop, ne_eq, decide_not] at ih ⊢
    by_cases hk : k = a
    · subst hk
      rw [List.filter_cons_of_neg (by simp), ih]
      by_cases hb : b = k
      · simp [hb]
      · simp [hb, Memory.listed, Ne.symm hb]
    · rw [List.filter_cons_of_pos (by simpa using hk)]
      by_cases hb : k = b
      · subst hb; simp [hk, Memory.listed]
      · simp [Memory.listed, hb, ih]

theorem Memory.get_set (m : Memory) (a b : Nat) (v : Byte) :
    Memory.get (Memory.set m a v) b = if b = a then v else Memory.get m b := by
  unfold Memory.get Memory.set
  by_cases hv : v = Memory.unlisted <;> by_cases hb : b = a <;>
    simp [hv, hb, Memory.listed_put, Memory.listed_drop]

theorem Memory.listed_slice (m : Memory) (base len i : Nat) :
    Memory.listed (Memory.slice m base len) i = if i < len then Memory.listed m (base + i) else none := by
  induction m with
  | nil => simp [Memory.slice, Memory.listed]
  | cons c m ih =>
    obtain ⟨k, w⟩ := c
    unfold Memory.slice at ih ⊢
    by_cases hin : base ≤ k ∧ k < base + len
    · obtain ⟨h1, h2⟩ := hin
      by_cases hk : k - base = i
      · have h3 : base + i = k := by omega
        have h4 : i < len := by omega
        simp [List.filter, h1, h2, Memory.listed, hk, h3, h4]
      · have h3 : ¬ k = base + i := by omega
        simp [List.filter, h1, h2, Memory.listed, hk, h3, ih]
    · by_cases hi : i < len
      · have h3 : ¬ k = base + i := by omega
        rcases Nat.lt_or_ge k base with h | h
        · simp [List.filter, Nat.not_le.mpr h, Memory.listed, h3, ih, hi]
        · simp [List.filter, h, show ¬ k < base + len from fun hh => hin ⟨h, hh⟩, Memory.listed, h3, ih, hi]
      · rcases Nat.lt_or_ge k base with h | h
        · simp [List.filter, Nat.not_le.mpr h, ih, hi]
        · simp [List.filter, h, show ¬ k < base + len from fun hh => hin ⟨h, hh⟩, ih, hi]

theorem Memory.get_slice (m : Memory) (base len i : Nat) :
    Memory.get (Memory.slice m base len) i = if i < len then Memory.get m (base + i) else 0 := by
  unfold Memory.get
  rw [Memory.listed_slice]
  split <;> rfl

/-! The canonical form. -/

/-- What `rising` says, cell by cell. -/
theorem Memory.rising_cons {c : Host.Cell} {m : Memory} {lo size : Nat} :
    Memory.rising (c :: m) lo size = true ↔ lo ≤ c.1 ∧ c.1 < size ∧ Memory.rising m (c.1 + 1) size = true := by
  simp [Memory.rising, and_assoc]

theorem Memory.rising_weaken {m : Memory} {lo lo' size : Nat} (h : Memory.rising m lo size = true) (hl : lo' ≤ lo) :
    Memory.rising m lo' size = true := by
  cases m with
  | nil => rfl
  | cons c m =>
    rw [Memory.rising_cons] at h ⊢
    exact ⟨Nat.le_trans hl h.1, h.2⟩

theorem Memory.rising_put {m : Memory} {lo size a : Nat} (v : Byte) (h : Memory.rising m lo size = true)
    (hlo : lo ≤ a) (ha : a < size) : Memory.rising (Memory.put m a v) lo size = true := by
  induction m generalizing lo with
  | nil => simp [Memory.put, Memory.rising, hlo, ha]
  | cons c m ih =>
    obtain ⟨k, w⟩ := c
    rw [Memory.rising_cons] at h
    obtain ⟨h1, h2, h3⟩ := h
    by_cases hlt : a < k
    · simp only [Memory.put, hlt, if_true, Memory.rising_cons]
      exact ⟨hlo, ha, hlt, h2, h3⟩
    · by_cases heq : a = k
      · subst heq
        simp only [Memory.put, Nat.lt_irrefl, if_false, if_true, Memory.rising_cons]
        exact ⟨hlo, ha, h3⟩
      · simp only [Memory.put, hlt, heq, if_false, Memory.rising_cons]
        exact ⟨h1, h2, ih h3 (by omega)⟩

theorem Memory.rising_filter {m : Memory} {lo size : Nat} (p : Host.Cell → Bool) (h : Memory.rising m lo size = true) :
    Memory.rising (m.filter p) lo size = true := by
  induction m generalizing lo with
  | nil => rfl
  | cons c m ih =>
    rw [Memory.rising_cons] at h
    obtain ⟨h1, h2, h3⟩ := h
    by_cases hp : p c = true
    · rw [List.filter_cons_of_pos hp, Memory.rising_cons]
      exact ⟨h1, h2, ih h3⟩
    · rw [List.filter_cons_of_neg hp]
      exact Memory.rising_weaken (ih h3) (by omega)

/-- Moving rising cells down by `base` keeps them rising, below a bound all of them meet. -/
theorem Memory.rising_shift {m : Memory} {lo size base len : Nat} (h : Memory.rising m lo size = true)
    (hb : ∀ c ∈ m, base ≤ c.1 ∧ c.1 < base + len) (hlo : base ≤ lo ∨ m = []) :
    Memory.rising (m.map (fun c => (c.1 - base, c.2))) (lo - base) len = true := by
  induction m generalizing lo with
  | nil => rfl
  | cons c m ih =>
    rw [Memory.rising_cons] at h
    obtain ⟨h1, h2, h3⟩ := h
    have hc := hb c (List.mem_cons_self ..)
    rw [List.map_cons, Memory.rising_cons]
    refine ⟨by simp only; omega, by simp only; omega, ?_⟩
    have := ih h3 (fun d hd => hb d (List.mem_cons_of_mem _ hd)) (.inl (by omega))
    have he : c.1 - base + 1 = c.1 + 1 - base := by omega
    simp only [he]
    exact this

theorem Memory.rising_slice {m : Memory} {size : Nat} (base len : Nat) (h : Memory.rising m 0 size = true) :
    Memory.rising (Memory.slice m base len) 0 len = true := by
  have hf := Memory.rising_filter (fun c => decide (base ≤ c.1) && decide (c.1 < base + len)) h
  have hin : ∀ c ∈ m.filter (fun c => decide (base ≤ c.1) && decide (c.1 < base + len)), base ≤ c.1 ∧ c.1 < base + len := by
    intro c hc
    simpa using (List.mem_filter.mp hc).2
  unfold Memory.slice
  revert hf hin
  generalize m.filter (fun c => decide (base ≤ c.1) && decide (c.1 < base + len)) = f
  intro hf hin
  cases f with
  | nil => rfl
  | cons c f =>
    rw [Memory.rising_cons] at hf
    have hc := hin c (List.mem_cons_self ..)
    have := Memory.rising_shift (lo := base) (Memory.rising_cons.mpr ⟨hc.1, hf.2⟩) hin (.inl (Nat.le_refl _))
    simpa using this

theorem Memory.wf_iff {m : Memory} {size : Nat} :
    Memory.wf m size = true ↔ Memory.rising m 0 size = true ∧ ∀ c ∈ m, c.2 ≠ Memory.unlisted := by
  simp [Memory.wf]

@[simp] theorem Memory.wf_nil (size : Nat) : Memory.wf [] size = true := rfl

@[simp] theorem Memory.wfOpen_nil (size : Nat) : Memory.wfOpen [] size = true := rfl

theorem Memory.mem_put {m : Memory} {a : Nat} {v : Byte} {c : Host.Cell} (h : c ∈ Memory.put m a v) :
    c = (a, v) ∨ c ∈ m := by
  induction m with
  | nil => simpa [Memory.put] using h
  | cons d m ih =>
    obtain ⟨k, w⟩ := d
    unfold Memory.put at h
    split at h
    · simpa using h
    · split at h
      · rcases List.mem_cons.mp h with h | h
        · exact .inl h
        · exact .inr (List.mem_cons_of_mem _ h)
      · rcases List.mem_cons.mp h with h | h
        · exact .inr (h ▸ List.mem_cons_self ..)
        · exact (ih h).imp_right (List.mem_cons_of_mem _)

/-- Writing a byte below the size keeps the canonical form. -/
theorem Memory.wf_set {m : Memory} {size a : Nat} (v : Byte) (h : Memory.wf m size = true) (ha : a < size) :
    Memory.wf (Memory.set m a v) size = true := by
  rw [Memory.wf_iff] at h ⊢
  unfold Memory.set
  by_cases hv : v = Memory.unlisted
  · simp only [hv, if_true]
    exact ⟨Memory.rising_filter _ h.1, fun c hc => h.2 c (List.mem_filter.mp hc).1⟩
  · simp only [hv, if_false]
    refine ⟨Memory.rising_put v h.1 (Nat.zero_le _) ha, fun c hc => ?_⟩
    rcases Memory.mem_put hc with rfl | hc
    · exact hv
    · exact h.2 c hc

/-- Writing a byte below the size keeps the canonical form of save RAM and nametable memory. -/
theorem Memory.wfOpen_put {m : Memory} {size a : Nat} (v : Byte) (h : Memory.wfOpen m size = true) (ha : a < size) :
    Memory.wfOpen (Memory.put m a v) size = true :=
  Memory.rising_put v h (Nat.zero_le _) ha

/-- A slice of a canonical memory is canonical. -/
theorem Memory.wf_slice {m : Memory} {size : Nat} (base len : Nat) (h : Memory.wf m size = true) :
    Memory.wf (Memory.slice m base len) len = true := by
  rw [Memory.wf_iff] at h ⊢
  refine ⟨Memory.rising_slice base len h.1, fun c hc => ?_⟩
  obtain ⟨d, hd, rfl⟩ := List.mem_map.mp hc
  exact h.2 d (List.mem_filter.mp hd).1

/-! The tile unpacker. -/

/-- Cells of the indices `lo .. lo + n - 1` at `base + index` rise. -/
theorem Memory.rising_filterMap_range' {base size : Nat} (p : Nat → Option Byte) (lo n : Nat) (hs : base + lo + n ≤ size) :
    Memory.rising ((List.range' lo n).filterMap fun k => (p k).map fun v => (base + k, v)) (base + lo) size = true := by
  induction n generalizing lo with
  | zero => rfl
  | succ n ih =>
    have hn := ih (lo + 1) (by omega)
    rw [List.range'_succ, List.filterMap_cons]
    cases hp : p lo with
    | none => exact Memory.rising_weaken (by simpa [hp] using hn) (by omega)
    | some v =>
      simp only [Option.map_some]
      rw [Memory.rising_cons]
      exact ⟨Nat.le_refl _, by simp only; omega, by simpa [Nat.add_assoc] using hn⟩

theorem Memory.rising_append {m n : Memory} {lo mid size : Nat} (hm : Memory.rising m lo mid = true)
    (hn : Memory.rising n mid size = true) (hlo : lo ≤ mid) (hs : mid ≤ size) : Memory.rising (m ++ n) lo size = true := by
  induction m generalizing lo with
  | nil => exact Memory.rising_weaken hn hlo
  | cons c m ih =>
    rw [Memory.rising_cons] at hm
    rw [List.cons_append, Memory.rising_cons]
    exact ⟨hm.1, by omega, ih hm.2.2 (by omega)⟩

/-- The pixels of tile `t` in the form `rising_filterMap_range'` speaks of. -/
theorem tilePixels_eq (chr : Memory) (t : Nat) :
    tilePixels chr t = (List.range' 0 64).filterMap fun k =>
      (if tilePixel (Memory.slice chr (t * 16) 16) k = Memory.unlisted then none
       else some (tilePixel (Memory.slice chr (t * 16) 16) k)).map fun v => (t * 64 + k, v) := by
  unfold tilePixels
  rw [List.range_eq_range']
  refine congrArg (fun f => List.filterMap f (List.range' 0 64)) (funext fun k => ?_)
  by_cases h : tilePixel (Memory.slice chr (t * 16) 16) k = Memory.unlisted <;> simp [h]

theorem tilePixels_rising (chr : Memory) (t : Nat) :
    Memory.rising (tilePixels chr t) (t * 64) (t * 64 + 64) = true := by
  rw [tilePixels_eq]
  exact Memory.rising_filterMap_range' _ 0 64 (by omega)

theorem tilePixels_nonzero (chr : Memory) (t : Nat) : ∀ c ∈ tilePixels chr t, c.2 ≠ Memory.unlisted := by
  intro c hc
  simp only [tilePixels, List.mem_filterMap] at hc
  obtain ⟨k, -, hk⟩ := hc
  split at hk
  · cases hk
  · rename_i h
    cases hk
    exact h

theorem tiles_rising (chr : Memory) (lo n : Nat) :
    Memory.rising ((List.range' lo n).flatMap (tilePixels chr)) (lo * 64) ((lo + n) * 64) = true := by
  induction n generalizing lo with
  | zero => rfl
  | succ n ih =>
    rw [List.range'_succ, List.flatMap_cons]
    have := ih (lo + 1)
    refine Memory.rising_append (mid := lo * 64 + 64) (tilePixels_rising chr lo) ?_ (by omega) (by omega)
    have h1 : (lo + 1) * 64 = lo * 64 + 64 := by omega
    have h2 : (lo + 1 + n) * 64 = (lo + (n + 1)) * 64 := by omega
    rwa [h1, h2] at this

/-- UNPACK_TILES gives a canonical memory of TILE_BUF_SIZE bytes, whatever the CHR image. -/
theorem unpackTiles_wf (chr : Memory) : Memory.wf (unpackTiles chr) tileBufSize = true := by
  rw [Memory.wf_iff]
  refine ⟨?_, fun c hc => ?_⟩
  · simpa [unpackTiles, List.range_eq_range', tileBufSize] using tiles_rising chr 0 512
  · obtain ⟨t, -, ht⟩ := List.mem_flatMap.mp hc
    exact tilePixels_nonzero chr t c ht

end Sys2Proof.Machine
end

