-- ==== Sys2Proof/Laws/State.lean ====
section
/-! SUPPORT. What each shared update does to each field of the state: one lemma per field, so that no proof unfolds a record
update. -/

namespace Sys2Proof.Machine

variable (s : State)

/-! `answer`. -/

@[simp] theorem answer_ram (o : Output) : (answer o s).ram = s.ram := rfl
@[simp] theorem answer_sram (o : Output) : (answer o s).sram = s.sram := rfl
@[simp] theorem answer_cart (o : Output) : (answer o s).cart = s.cart := rfl
@[simp] theorem answer_ctrl1 (o : Output) : (answer o s).ctrl1 = s.ctrl1 := rfl
@[simp] theorem answer_ctrl2 (o : Output) : (answer o s).ctrl2 = s.ctrl2 := rfl
@[simp] theorem answer_vblank (o : Output) : (answer o s).vblank = s.vblank := rfl
@[simp] theorem answer_sprite0Hit (o : Output) : (answer o s).sprite0Hit = s.sprite0Hit := rfl
@[simp] theorem answer_spritesLost (o : Output) : (answer o s).spritesLost = s.spritesLost := rfl
@[simp] theorem answer_writeCount (o : Output) : (answer o s).writeCount = s.writeCount := rfl
@[simp] theorem answer_scrollX (o : Output) : (answer o s).scrollX = s.scrollX := rfl
@[simp] theorem answer_scrollY (o : Output) : (answer o s).scrollY = s.scrollY := rfl
@[simp] theorem answer_vramAddr (o : Output) : (answer o s).vramAddr = s.vramAddr := rfl
@[simp] theorem answer_nameAttr (o : Output) : (answer o s).nameAttr = s.nameAttr := rfl
@[simp] theorem answer_palette (o : Output) : (answer o s).palette = s.palette := rfl
@[simp] theorem answer_spriteRam (o : Output) : (answer o s).spriteRam = s.spriteRam := rfl
@[simp] theorem answer_dot (o : Output) : (answer o s).dot = s.dot := rfl
@[simp] theorem answer_scanline (o : Output) : (answer o s).scanline = s.scanline := rfl
@[simp] theorem answer_frameCount (o : Output) : (answer o s).frameCount = s.frameCount := rfl
@[simp] theorem answer_cpuCycles (o : Output) : (answer o s).cpuCycles = s.cpuCycles := rfl
@[simp] theorem answer_nmiPending (o : Output) : (answer o s).nmiPending = s.nmiPending := rfl
@[simp] theorem answer_frameDone (o : Output) : (answer o s).frameDone = s.frameDone := rfl
@[simp] theorem answer_buttons (o : Output) : (answer o s).buttons = s.buttons := rfl
@[simp] theorem answer_strobe (o : Output) : (answer o s).strobe = s.strobe := rfl
@[simp] theorem answer_cursor (o : Output) : (answer o s).cursor = s.cursor := rfl
@[simp] theorem answer_fault (o : Output) : (answer o s).fault = s.fault := rfl
@[simp] theorem answer_outputs (o : Output) : (answer o s).outputs = o :: s.outputs := rfl
@[simp] theorem answer_creations (o : Output) : (answer o s).creations = s.creations := rfl
@[simp] theorem answer_env (o : Output) : (answer o s).env = s.env := rfl

/-! `returnByte`. -/

@[simp] theorem returnByte_ram (v : Byte) : (returnByte v s).ram = s.ram := rfl
@[simp] theorem returnByte_sram (v : Byte) : (returnByte v s).sram = s.sram := rfl
@[simp] theorem returnByte_cart (v : Byte) : (returnByte v s).cart = s.cart := rfl
@[simp] theorem returnByte_ctrl1 (v : Byte) : (returnByte v s).ctrl1 = s.ctrl1 := rfl
@[simp] theorem returnByte_ctrl2 (v : Byte) : (returnByte v s).ctrl2 = s.ctrl2 := rfl
@[simp] theorem returnByte_vblank (v : Byte) : (returnByte v s).vblank = s.vblank := rfl
@[simp] theorem returnByte_sprite0Hit (v : Byte) : (returnByte v s).sprite0Hit = s.sprite0Hit := rfl
@[simp] theorem returnByte_spritesLost (v : Byte) : (returnByte v s).spritesLost = s.spritesLost := rfl
@[simp] theorem returnByte_writeCount (v : Byte) : (returnByte v s).writeCount = s.writeCount := rfl
@[simp] theorem returnByte_scrollX (v : Byte) : (returnByte v s).scrollX = s.scrollX := rfl
@[simp] theorem returnByte_scrollY (v : Byte) : (returnByte v s).scrollY = s.scrollY := rfl
@[simp] theorem returnByte_vramAddr (v : Byte) : (returnByte v s).vramAddr = s.vramAddr := rfl
@[simp] theorem returnByte_nameAttr (v : Byte) : (returnByte v s).nameAttr = s.nameAttr := rfl
@[simp] theorem returnByte_palette (v : Byte) : (returnByte v s).palette = s.palette := rfl
@[simp] theorem returnByte_spriteRam (v : Byte) : (returnByte v s).spriteRam = s.spriteRam := rfl
@[simp] theorem returnByte_dot (v : Byte) : (returnByte v s).dot = s.dot := rfl
@[simp] theorem returnByte_scanline (v : Byte) : (returnByte v s).scanline = s.scanline := rfl
@[simp] theorem returnByte_frameCount (v : Byte) : (returnByte v s).frameCount = s.frameCount := rfl
@[simp] theorem returnByte_cpuCycles (v : Byte) : (returnByte v s).cpuCycles = s.cpuCycles := rfl
@[simp] theorem returnByte_nmiPending (v : Byte) : (returnByte v s).nmiPending = s.nmiPending := rfl
@[simp] theorem returnByte_frameDone (v : Byte) : (returnByte v s).frameDone = s.frameDone := rfl
@[simp] theorem returnByte_buttons (v : Byte) : (returnByte v s).buttons = s.buttons := rfl
@[simp] theorem returnByte_strobe (v : Byte) : (returnByte v s).strobe = s.strobe := rfl
@[simp] theorem returnByte_cursor (v : Byte) : (returnByte v s).cursor = s.cursor := rfl
@[simp] theorem returnByte_fault (v : Byte) : (returnByte v s).fault = s.fault := rfl
@[simp] theorem returnByte_outputs (v : Byte) : (returnByte v s).outputs = .byte v :: s.outputs := rfl
@[simp] theorem returnByte_creations (v : Byte) : (returnByte v s).creations = s.creations := rfl
@[simp] theorem returnByte_env (v : Byte) : (returnByte v s).env = s.env := rfl

/-! `raiseFault`. -/

@[simp] theorem raiseFault_ram (k : FaultKind) (a : Addr) (d : Dir) : (raiseFault k a d s).ram = s.ram := rfl
@[simp] theorem raiseFault_sram (k : FaultKind) (a : Addr) (d : Dir) : (raiseFault k a d s).sram = s.sram := rfl
@[simp] theorem raiseFault_cart (k : FaultKind) (a : Addr) (d : Dir) : (raiseFault k a d s).cart = s.cart := rfl
@[simp] theorem raiseFault_ctrl1 (k : FaultKind) (a : Addr) (d : Dir) : (raiseFault k a d s).ctrl1 = s.ctrl1 := rfl
@[simp] theorem raiseFault_ctrl2 (k : FaultKind) (a : Addr) (d : Dir) : (raiseFault k a d s).ctrl2 = s.ctrl2 := rfl
@[simp] theorem raiseFault_vblank (k : FaultKind) (a : Addr) (d : Dir) : (raiseFault k a d s).vblank = s.vblank := rfl
@[simp] theorem raiseFault_sprite0Hit (k : FaultKind) (a : Addr) (d : Dir) : (raiseFault k a d s).sprite0Hit = s.sprite0Hit := rfl
@[simp] theorem raiseFault_spritesLost (k : FaultKind) (a : Addr) (d : Dir) : (raiseFault k a d s).spritesLost = s.spritesLost := rfl
@[simp] theorem raiseFault_writeCount (k : FaultKind) (a : Addr) (d : Dir) : (raiseFault k a d s).writeCount = s.writeCount := rfl
@[simp] theorem raiseFault_scrollX (k : FaultKind) (a : Addr) (d : Dir) : (raiseFault k a d s).scrollX = s.scrollX := rfl
@[simp] theorem raiseFault_scrollY (k : FaultKind) (a : Addr) (d : Dir) : (raiseFault k a d s).scrollY = s.scrollY := rfl
@[simp] theorem raiseFault_vramAddr (k : FaultKind) (a : Addr) (d : Dir) : (raiseFault k a d s).vramAddr = s.vramAddr := rfl
@[simp] theorem raiseFault_nameAttr (k : FaultKind) (a : Addr) (d : Dir) : (raiseFault k a d s).nameAttr = s.nameAttr := rfl
@[simp] theorem raiseFault_palette (k : FaultKind) (a : Addr) (d : Dir) : (raiseFault k a d s).palette = s.palette := rfl
@[simp] theorem raiseFault_spriteRam (k : FaultKind) (a : Addr) (d : Dir) : (raiseFault k a d s).spriteRam = s.spriteRam := rfl
@[simp] theorem raiseFault_dot (k : FaultKind) (a : Addr) (d : Dir) : (raiseFault k a d s).dot = s.dot := rfl
@[simp] theorem raiseFault_scanline (k : FaultKind) (a : Addr) (d : Dir) : (raiseFault k a d s).scanline = s.scanline := rfl
@[simp] theorem raiseFault_frameCount (k : FaultKind) (a : Addr) (d : Dir) : (raiseFault k a d s).frameCount = s.frameCount := rfl
@[simp] theorem raiseFault_cpuCycles (k : FaultKind) (a : Addr) (d : Dir) : (raiseFault k a d s).cpuCycles = s.cpuCycles := rfl
@[simp] theorem raiseFault_nmiPending (k : FaultKind) (a : Addr) (d : Dir) : (raiseFault k a d s).nmiPending = s.nmiPending := rfl
@[simp] theorem raiseFault_frameDone (k : FaultKind) (a : Addr) (d : Dir) : (raiseFault k a d s).frameDone = s.frameDone := rfl
@[simp] theorem raiseFault_buttons (k : FaultKind) (a : Addr) (d : Dir) : (raiseFault k a d s).buttons = s.buttons := rfl
@[simp] theorem raiseFault_strobe (k : FaultKind) (a : Addr) (d : Dir) : (raiseFault k a d s).strobe = s.strobe := rfl
@[simp] theorem raiseFault_cursor (k : FaultKind) (a : Addr) (d : Dir) : (raiseFault k a d s).cursor = s.cursor := rfl
@[simp] theorem raiseFault_fault (k : FaultKind) (a : Addr) (d : Dir) : (raiseFault k a d s).fault = some ⟨k, a, d⟩ := rfl
@[simp] theorem raiseFault_outputs (k : FaultKind) (a : Addr) (d : Dir) : (raiseFault k a d s).outputs = s.outputs := rfl
@[simp] theorem raiseFault_creations (k : FaultKind) (a : Addr) (d : Dir) : (raiseFault k a d s).creations = s.creations := rfl
@[simp] theorem raiseFault_env (k : FaultKind) (a : Addr) (d : Dir) : (raiseFault k a d s).env = s.env := rfl

/-! `signalNmi`. -/

@[simp] theorem signalNmi_ram : (signalNmi s).ram = s.ram := rfl
@[simp] theorem signalNmi_sram : (signalNmi s).sram = s.sram := rfl
@[simp] theorem signalNmi_cart : (signalNmi s).cart = s.cart := rfl
@[simp] theorem signalNmi_ctrl1 : (signalNmi s).ctrl1 = s.ctrl1 := rfl
@[simp] theorem signalNmi_ctrl2 : (signalNmi s).ctrl2 = s.ctrl2 := rfl
@[simp] theorem signalNmi_vblank : (signalNmi s).vblank = s.vblank := rfl
@[simp] theorem signalNmi_sprite0Hit : (signalNmi s).sprite0Hit = s.sprite0Hit := rfl
@[simp] theorem signalNmi_spritesLost : (signalNmi s).spritesLost = s.spritesLost := rfl
@[simp] theorem signalNmi_writeCount : (signalNmi s).writeCount = s.writeCount := rfl
@[simp] theorem signalNmi_scrollX : (signalNmi s).scrollX = s.scrollX := rfl
@[simp] theorem signalNmi_scrollY : (signalNmi s).scrollY = s.scrollY := rfl
@[simp] theorem signalNmi_vramAddr : (signalNmi s).vramAddr = s.vramAddr := rfl
@[simp] theorem signalNmi_nameAttr : (signalNmi s).nameAttr = s.nameAttr := rfl
@[simp] theorem signalNmi_palette : (signalNmi s).palette = s.palette := rfl
@[simp] theorem signalNmi_spriteRam : (signalNmi s).spriteRam = s.spriteRam := rfl
@[simp] theorem signalNmi_dot : (signalNmi s).dot = s.dot := rfl
@[simp] theorem signalNmi_scanline : (signalNmi s).scanline = s.scanline := rfl
@[simp] theorem signalNmi_frameCount : (signalNmi s).frameCount = s.frameCount := rfl
@[simp] theorem signalNmi_cpuCycles : (signalNmi s).cpuCycles = s.cpuCycles := rfl
@[simp] theorem signalNmi_nmiPending : (signalNmi s).nmiPending = true := rfl
@[simp] theorem signalNmi_frameDone : (signalNmi s).frameDone = s.frameDone := rfl
@[simp] theorem signalNmi_buttons : (signalNmi s).buttons = s.buttons := rfl
@[simp] theorem signalNmi_strobe : (signalNmi s).strobe = s.strobe := rfl
@[simp] theorem signalNmi_cursor : (signalNmi s).cursor = s.cursor := rfl
@[simp] theorem signalNmi_fault : (signalNmi s).fault = s.fault := rfl
@[simp] theorem signalNmi_outputs : (signalNmi s).outputs = s.outputs := rfl
@[simp] theorem signalNmi_creations : (signalNmi s).creations = s.creations := rfl
@[simp] theorem signalNmi_env : (signalNmi s).env = s.env := rfl

/-! `clearFlags`. -/

@[simp] theorem clearFlags_ram : (clearFlags s).ram = s.ram := rfl
@[simp] theorem clearFlags_sram : (clearFlags s).sram = s.sram := rfl
@[simp] theorem clearFlags_cart : (clearFlags s).cart = s.cart := rfl
@[simp] theorem clearFlags_ctrl1 : (clearFlags s).ctrl1 = s.ctrl1 := rfl
@[simp] theorem clearFlags_ctrl2 : (clearFlags s).ctrl2 = s.ctrl2 := rfl
@[simp] theorem clearFlags_vblank : (clearFlags s).vblank = false := rfl
@[simp] theorem clearFlags_sprite0Hit : (clearFlags s).sprite0Hit = false := rfl
@[simp] theorem clearFlags_spritesLost : (clearFlags s).spritesLost = false := rfl
@[simp] theorem clearFlags_writeCount : (clearFlags s).writeCount = s.writeCount := rfl
@[simp] theorem clearFlags_scrollX : (clearFlags s).scrollX = s.scrollX := rfl
@[simp] theorem clearFlags_scrollY : (clearFlags s).scrollY = s.scrollY := rfl
@[simp] theorem clearFlags_vramAddr : (clearFlags s).vramAddr = s.vramAddr := rfl
@[simp] theorem clearFlags_nameAttr : (clearFlags s).nameAttr = s.nameAttr := rfl
@[simp] theorem clearFlags_palette : (clearFlags s).palette = s.palette := rfl
@[simp] theorem clearFlags_spriteRam : (clearFlags s).spriteRam = s.spriteRam := rfl
@[simp] theorem clearFlags_dot : (clearFlags s).dot = s.dot := rfl
@[simp] theorem clearFlags_scanline : (clearFlags s).scanline = s.scanline := rfl
@[simp] theorem clearFlags_frameCount : (clearFlags s).frameCount = s.frameCount := rfl
@[simp] theorem clearFlags_cpuCycles : (clearFlags s).cpuCycles = s.cpuCycles := rfl
@[simp] theorem clearFlags_nmiPending : (clearFlags s).nmiPending = s.nmiPending := rfl
@[simp] theorem clearFlags_frameDone : (clearFlags s).frameDone = s.frameDone := rfl
@[simp] theorem clearFlags_buttons : (clearFlags s).buttons = s.buttons := rfl
@[simp] theorem clearFlags_strobe : (clearFlags s).strobe = s.strobe := rfl
@[simp] theorem clearFlags_cursor : (clearFlags s).cursor = s.cursor := rfl
@[simp] theorem clearFlags_fault : (clearFlags s).fault = s.fault := rfl
@[simp] theorem clearFlags_outputs : (clearFlags s).outputs = s.outputs := rfl
@[simp] theorem clearFlags_creations : (clearFlags s).creations = s.creations := rfl
@[simp] theorem clearFlags_env : (clearFlags s).env = s.env := rfl

/-! `vramAdvance`. -/

@[simp] theorem vramAdvance_ram : (vramAdvance s).ram = s.ram := rfl
@[simp] theorem vramAdvance_sram : (vramAdvance s).sram = s.sram := rfl
@[simp] theorem vramAdvance_cart : (vramAdvance s).cart = s.cart := rfl
@[simp] theorem vramAdvance_ctrl1 : (vramAdvance s).ctrl1 = s.ctrl1 := rfl
@[simp] theorem vramAdvance_ctrl2 : (vramAdvance s).ctrl2 = s.ctrl2 := rfl
@[simp] theorem vramAdvance_vblank : (vramAdvance s).vblank = s.vblank := rfl
@[simp] theorem vramAdvance_sprite0Hit : (vramAdvance s).sprite0Hit = s.sprite0Hit := rfl
@[simp] theorem vramAdvance_spritesLost : (vramAdvance s).spritesLost = s.spritesLost := rfl
@[simp] theorem vramAdvance_writeCount : (vramAdvance s).writeCount = s.writeCount := rfl
@[simp] theorem vramAdvance_scrollX : (vramAdvance s).scrollX = s.scrollX := rfl
@[simp] theorem vramAdvance_scrollY : (vramAdvance s).scrollY = s.scrollY := rfl
@[simp] theorem vramAdvance_vramAddr : (vramAdvance s).vramAddr = vramNext s.ctrl1 s.vramAddr := rfl
@[simp] theorem vramAdvance_nameAttr : (vramAdvance s).nameAttr = s.nameAttr := rfl
@[simp] theorem vramAdvance_palette : (vramAdvance s).palette = s.palette := rfl
@[simp] theorem vramAdvance_spriteRam : (vramAdvance s).spriteRam = s.spriteRam := rfl
@[simp] theorem vramAdvance_dot : (vramAdvance s).dot = s.dot := rfl
@[simp] theorem vramAdvance_scanline : (vramAdvance s).scanline = s.scanline := rfl
@[simp] theorem vramAdvance_frameCount : (vramAdvance s).frameCount = s.frameCount := rfl
@[simp] theorem vramAdvance_cpuCycles : (vramAdvance s).cpuCycles = s.cpuCycles := rfl
@[simp] theorem vramAdvance_nmiPending : (vramAdvance s).nmiPending = s.nmiPending := rfl
@[simp] theorem vramAdvance_frameDone : (vramAdvance s).frameDone = s.frameDone := rfl
@[simp] theorem vramAdvance_buttons : (vramAdvance s).buttons = s.buttons := rfl
@[simp] theorem vramAdvance_strobe : (vramAdvance s).strobe = s.strobe := rfl
@[simp] theorem vramAdvance_cursor : (vramAdvance s).cursor = s.cursor := rfl
@[simp] theorem vramAdvance_fault : (vramAdvance s).fault = s.fault := rfl
@[simp] theorem vramAdvance_outputs : (vramAdvance s).outputs = s.outputs := rfl
@[simp] theorem vramAdvance_creations : (vramAdvance s).creations = s.creations := rfl
@[simp] theorem vramAdvance_env : (vramAdvance s).env = s.env := rfl

/-! `spriteDma`. -/

@[simp] theorem spriteDma_ram (v : Byte) : (spriteDma v s).ram = s.ram := rfl
@[simp] theorem spriteDma_sram (v : Byte) : (spriteDma v s).sram = s.sram := rfl
@[simp] theorem spriteDma_cart (v : Byte) : (spriteDma v s).cart = s.cart := rfl
@[simp] theorem spriteDma_ctrl1 (v : Byte) : (spriteDma v s).ctrl1 = s.ctrl1 := rfl
@[simp] theorem spriteDma_ctrl2 (v : Byte) : (spriteDma v s).ctrl2 = s.ctrl2 := rfl
@[simp] theorem spriteDma_vblank (v : Byte) : (spriteDma v s).vblank = s.vblank := rfl
@[simp] theorem spriteDma_sprite0Hit (v : Byte) : (spriteDma v s).sprite0Hit = s.sprite0Hit := rfl
@[simp] theorem spriteDma_spritesLost (v : Byte) : (spriteDma v s).spritesLost = s.spritesLost := rfl
@[simp] theorem spriteDma_writeCount (v : Byte) : (spriteDma v s).writeCount = s.writeCount := rfl
@[simp] theorem spriteDma_scrollX (v : Byte) : (spriteDma v s).scrollX = s.scrollX := rfl
@[simp] theorem spriteDma_scrollY (v : Byte) : (spriteDma v s).scrollY = s.scrollY := rfl
@[simp] theorem spriteDma_vramAddr (v : Byte) : (spriteDma v s).vramAddr = s.vramAddr := rfl
@[simp] theorem spriteDma_nameAttr (v : Byte) : (spriteDma v s).nameAttr = s.nameAttr := rfl
@[simp] theorem spriteDma_palette (v : Byte) : (spriteDma v s).palette = s.palette := rfl
@[simp] theorem spriteDma_spriteRam (v : Byte) : (spriteDma v s).spriteRam = Memory.slice s.ram (dmaPage v) spriteRamSize := rfl
@[simp] theorem spriteDma_dot (v : Byte) : (spriteDma v s).dot = s.dot + dotsPerCpuCycle * dmaCost s.cpuCycles := rfl
@[simp] theorem spriteDma_scanline (v : Byte) : (spriteDma v s).scanline = s.scanline := rfl
@[simp] theorem spriteDma_frameCount (v : Byte) : (spriteDma v s).frameCount = s.frameCount := rfl
@[simp] theorem spriteDma_cpuCycles (v : Byte) : (spriteDma v s).cpuCycles = s.cpuCycles + dmaCost s.cpuCycles := rfl
@[simp] theorem spriteDma_nmiPending (v : Byte) : (spriteDma v s).nmiPending = s.nmiPending := rfl
@[simp] theorem spriteDma_frameDone (v : Byte) : (spriteDma v s).frameDone = s.frameDone := rfl
@[simp] theorem spriteDma_buttons (v : Byte) : (spriteDma v s).buttons = s.buttons := rfl
@[simp] theorem spriteDma_strobe (v : Byte) : (spriteDma v s).strobe = s.strobe := rfl
@[simp] theorem spriteDma_cursor (v : Byte) : (spriteDma v s).cursor = s.cursor := rfl
@[simp] theorem spriteDma_fault (v : Byte) : (spriteDma v s).fault = s.fault := rfl
@[simp] theorem spriteDma_outputs (v : Byte) : (spriteDma v s).outputs = s.outputs := rfl
@[simp] theorem spriteDma_creations (v : Byte) : (spriteDma v s).creations = s.creations := rfl
@[simp] theorem spriteDma_env (v : Byte) : (spriteDma v s).env = s.env := rfl

/-! `wrapFrame`. -/

@[simp] theorem wrapFrame_ram : (wrapFrame s).ram = s.ram := rfl
@[simp] theorem wrapFrame_sram : (wrapFrame s).sram = s.sram := rfl
@[simp] theorem wrapFrame_cart : (wrapFrame s).cart = s.cart := rfl
@[simp] theorem wrapFrame_ctrl1 : (wrapFrame s).ctrl1 = s.ctrl1 := rfl
@[simp] theorem wrapFrame_ctrl2 : (wrapFrame s).ctrl2 = s.ctrl2 := rfl
@[simp] theorem wrapFrame_vblank : (wrapFrame s).vblank = false := rfl
@[simp] theorem wrapFrame_sprite0Hit : (wrapFrame s).sprite0Hit = false := rfl
@[simp] theorem wrapFrame_spritesLost : (wrapFrame s).spritesLost = false := rfl
@[simp] theorem wrapFrame_writeCount : (wrapFrame s).writeCount = s.writeCount := rfl
@[simp] theorem wrapFrame_scrollX : (wrapFrame s).scrollX = s.scrollX := rfl
@[simp] theorem wrapFrame_scrollY : (wrapFrame s).scrollY = s.scrollY := rfl
@[simp] theorem wrapFrame_vramAddr : (wrapFrame s).vramAddr = s.vramAddr := rfl
@[simp] theorem wrapFrame_nameAttr : (wrapFrame s).nameAttr = s.nameAttr := rfl
@[simp] theorem wrapFrame_palette : (wrapFrame s).palette = s.palette := rfl
@[simp] theorem wrapFrame_spriteRam : (wrapFrame s).spriteRam = s.spriteRam := rfl
@[simp] theorem wrapFrame_dot : (wrapFrame s).dot = s.dot := rfl
@[simp] theorem wrapFrame_scanline : (wrapFrame s).scanline = scanlineFirst := rfl
@[simp] theorem wrapFrame_frameCount : (wrapFrame s).frameCount = s.frameCount := rfl
@[simp] theorem wrapFrame_cpuCycles : (wrapFrame s).cpuCycles = s.cpuCycles := rfl
@[simp] theorem wrapFrame_nmiPending : (wrapFrame s).nmiPending = s.nmiPending := rfl
@[simp] theorem wrapFrame_frameDone : (wrapFrame s).frameDone = s.frameDone := rfl
@[simp] theorem wrapFrame_buttons : (wrapFrame s).buttons = s.buttons := rfl
@[simp] theorem wrapFrame_strobe : (wrapFrame s).strobe = s.strobe := rfl
@[simp] theorem wrapFrame_cursor : (wrapFrame s).cursor = s.cursor := rfl
@[simp] theorem wrapFrame_fault : (wrapFrame s).fault = s.fault := rfl
@[simp] theorem wrapFrame_outputs : (wrapFrame s).outputs = s.outputs := rfl
@[simp] theorem wrapFrame_creations : (wrapFrame s).creations = s.creations := rfl
@[simp] theorem wrapFrame_env : (wrapFrame s).env = s.env := rfl

/-! `zeroVolatile`. -/

@[simp] theorem zeroVolatile_ram : (zeroVolatile s).ram = [] := rfl
@[simp] theorem zeroVolatile_sram : (zeroVolatile s).sram = s.sram := rfl
@[simp] theorem zeroVolatile_cart : (zeroVolatile s).cart = s.cart := rfl
@[simp] theorem zeroVolatile_ctrl1 : (zeroVolatile s).ctrl1 = ⟨false, false, false, false, false, 0⟩ := rfl
@[simp] theorem zeroVolatile_ctrl2 : (zeroVolatile s).ctrl2 = ⟨0, false, false, false, false, false⟩ := rfl
@[simp] theorem zeroVolatile_vblank : (zeroVolatile s).vblank = false := rfl
@[simp] theorem zeroVolatile_sprite0Hit : (zeroVolatile s).sprite0Hit = false := rfl
@[simp] theorem zeroVolatile_spritesLost : (zeroVolatile s).spritesLost = false := rfl
@[simp] theorem zeroVolatile_writeCount : (zeroVolatile s).writeCount = false := rfl
@[simp] theorem zeroVolatile_scrollX : (zeroVolatile s).scrollX = 0 := rfl
@[simp] theorem zeroVolatile_scrollY : (zeroVolatile s).scrollY = 0 := rfl
@[simp] theorem zeroVolatile_vramAddr : (zeroVolatile s).vramAddr = 0 := rfl
@[simp] theorem zeroVolatile_nameAttr : (zeroVolatile s).nameAttr = s.nameAttr := rfl
@[simp] theorem zeroVolatile_palette : (zeroVolatile s).palette = [] := rfl
@[simp] theorem zeroVolatile_spriteRam : (zeroVolatile s).spriteRam = [] := rfl
@[simp] theorem zeroVolatile_dot : (zeroVolatile s).dot = 0 := rfl
@[simp] theorem zeroVolatile_scanline : (zeroVolatile s).scanline = 0 := rfl
@[simp] theorem zeroVolatile_frameCount : (zeroVolatile s).frameCount = 0 := rfl
@[simp] theorem zeroVolatile_cpuCycles : (zeroVolatile s).cpuCycles = 0 := rfl
@[simp] theorem zeroVolatile_nmiPending : (zeroVolatile s).nmiPending = false := rfl
@[simp] theorem zeroVolatile_frameDone : (zeroVolatile s).frameDone = false := rfl
@[simp] theorem zeroVolatile_buttons : (zeroVolatile s).buttons = Vector.replicate 2 (Vector.replicate 8 false) := rfl
@[simp] theorem zeroVolatile_strobe : (zeroVolatile s).strobe = .idle := rfl
@[simp] theorem zeroVolatile_cursor : (zeroVolatile s).cursor = Vector.replicate 2 0 := rfl
@[simp] theorem zeroVolatile_fault : (zeroVolatile s).fault = s.fault := rfl
@[simp] theorem zeroVolatile_outputs : (zeroVolatile s).outputs = s.outputs := rfl
@[simp] theorem zeroVolatile_creations : (zeroVolatile s).creations = s.creations := rfl
@[simp] theorem zeroVolatile_env : (zeroVolatile s).env = s.env := rfl

/-! `createSystem`. -/

@[simp] theorem createSystem_ram : (createSystem s).ram = [] := rfl
@[simp] theorem createSystem_sram : (createSystem s).sram = [] := rfl
@[simp] theorem createSystem_cart : (createSystem s).cart = ⟨[], 0, [], [], .vertical, false⟩ := rfl
@[simp] theorem createSystem_ctrl1 : (createSystem s).ctrl1 = ⟨false, false, false, false, false, 0⟩ := rfl
@[simp] theorem createSystem_ctrl2 : (createSystem s).ctrl2 = ⟨0, false, false, false, false, false⟩ := rfl
@[simp] theorem createSystem_vblank : (createSystem s).vblank = false := rfl
@[simp] theorem createSystem_sprite0Hit : (createSystem s).sprite0Hit = false := rfl
@[simp] theorem createSystem_spritesLost : (createSystem s).spritesLost = false := rfl
@[simp] theorem createSystem_writeCount : (createSystem s).writeCount = false := rfl
@[simp] theorem createSystem_scrollX : (createSystem s).scrollX = 0 := rfl
@[simp] theorem createSystem_scrollY : (createSystem s).scrollY = 0 := rfl
@[simp] theorem createSystem_vramAddr : (createSystem s).vramAddr = 0 := rfl
@[simp] theorem createSystem_nameAttr : (createSystem s).nameAttr = [] := rfl
@[simp] theorem createSystem_palette : (createSystem s).palette = [] := rfl
@[simp] theorem createSystem_spriteRam : (createSystem s).spriteRam = [] := rfl
@[simp] theorem createSystem_dot : (createSystem s).dot = 0 := rfl
@[simp] theorem createSystem_scanline : (createSystem s).scanline = 0 := rfl
@[simp] theorem createSystem_frameCount : (createSystem s).frameCount = 0 := rfl
@[simp] theorem createSystem_cpuCycles : (createSystem s).cpuCycles = 0 := rfl
@[simp] theorem createSystem_nmiPending : (createSystem s).nmiPending = false := rfl
@[simp] theorem createSystem_frameDone : (createSystem s).frameDone = false := rfl
@[simp] theorem createSystem_buttons : (createSystem s).buttons = Vector.replicate 2 (Vector.replicate 8 false) := rfl
@[simp] theorem createSystem_strobe : (createSystem s).strobe = .idle := rfl
@[simp] theorem createSystem_cursor : (createSystem s).cursor = Vector.replicate 2 0 := rfl
@[simp] theorem createSystem_fault : (createSystem s).fault = none := rfl
@[simp] theorem createSystem_outputs : (createSystem s).outputs = s.outputs := rfl
@[simp] theorem createSystem_creations : (createSystem s).creations = s.creations + 1 := rfl
@[simp] theorem createSystem_env : (createSystem s).env = s.env := rfl

end Sys2Proof.Machine
end

