-- ==== Sys2Proof/Laws/Ops.lean ====
section
/-! SUPPORT. What the shared operations can do: accepting an operation, and the bounds of the effective addresses. -/

namespace Sys2Proof.Machine

variable {s t u : State}

/-- With no fault set an operation is performed (R35). -/
theorem accept_of_ok (h : s.fault = none) : accept s t = .next t := by simp [accept, h]

/-- With a fault set an operation is refused (R35, R214). -/
theorem accept_of_faulted (h : s.fault ≠ none) : accept s t = .refused .faulted := by simp [accept, h]

/-- Everything `accept` can do when it answers a next state. -/
theorem accept_next : accept s t = .next u ↔ s.fault = none ∧ t = u := by
  unfold accept
  split <;> simp [*]

/-! Index bounds. -/

theorem ramIndex_eq (a : Addr) : ramIndex a = a.toNat % 0x800 := by
  unfold ramIndex
  rw [BitVec.toNat_and]
  exact Nat.and_two_pow_sub_one_eq_mod a.toNat 11

theorem ramIndex_lt (a : Addr) : ramIndex a < ramSize := by
  rw [ramIndex_eq]; unfold ramSize; omega

theorem sramIndex_eq (a : Addr) : sramIndex a = a.toNat % 0x2000 := by
  unfold sramIndex
  rw [BitVec.toNat_and]
  exact Nat.and_two_pow_sub_one_eq_mod a.toNat 13

theorem sramIndex_lt (a : Addr) : sramIndex a < sramSize := by
  rw [sramIndex_eq]; unfold sramSize; omega

theorem prgIndex_eq (banks : Nat) (a : Addr) :
    prgIndex banks a = if banks = 1 then a.toNat % 0x4000 else a.toNat % 0x8000 := by
  unfold prgIndex
  rw [BitVec.toNat_and, BitVec.toNat_and]
  congr 1
  · exact Nat.and_two_pow_sub_one_eq_mod a.toNat 14
  · exact Nat.and_two_pow_sub_one_eq_mod a.toNat 15

theorem ntBank_lt (m : Mirroring) (slot : Nat) : ntBank m slot < 2 := by
  cases m <;> simp only [ntBank] <;> omega

theorem ntIndex_eq (m : Mirroring) (a : VramAddr) :
    ntIndex m a = ntBank m (a.toNat / 0x400 % 4) * 0x400 + a.toNat % 0x400 := rfl

theorem isAttribute_iff (i : Nat) : isAttribute i = true ↔ 0x3C0 ≤ i % 0x400 :=
  decide_eq_true_iff

theorem attrBase_eq (bank : Nat) : attrBase bank = bank * 0x400 + 0x3C0 := rfl

theorem ntIndex_lt (m : Mirroring) (a : VramAddr) : ntIndex m a < ntSize := by
  have := ntBank_lt m (a.toNat / 0x400 % 4)
  rw [ntIndex_eq]
  unfold ntSize
  omega

theorem palIndex_lt (a : VramAddr) : palIndex a < paletteSize := by
  unfold palIndex paletteSize
  simp only
  split <;> omega

theorem dmaPage_eq (v : Byte) : dmaPage v = v.toNat % 8 * 0x100 := by
  unfold dmaPage
  rw [BitVec.toNat_and]
  exact congrArg (· * 0x100) (Nat.and_two_pow_sub_one_eq_mod v.toNat 3)

end Sys2Proof.Machine
end

