-- ==== Sys2Proof/Laws/Bus.lean ====
section
/-! SUPPORT. Everything a bus operation can do, said once, and the induction over the accesses of a CPU call. -/

namespace Sys2Proof.Machine

/-- The next states of a bus operation performed with no fault set. -/
inductive BusStep (s : State) : State → Prop where
  /-- An ignored write. -/
  | ignored : BusStep s s
  /-- A pure read. -/
  | returns (v : Byte) : BusStep s (returnByte v s)
  /-- A block fault (R214). -/
  | faults (k : FaultKind) (a : Addr) (d : Dir) : BusStep s (raiseFault k a d s)
  /-- RAM_WR. -/
  | ram (i : Nat) (v : Byte) (hi : i < ramSize) : BusStep s { s with ram := Memory.set s.ram i v }
  /-- SRAM_WR. -/
  | sram (i : Nat) (v : Byte) (hi : i < sramSize) : BusStep s { s with sram := Memory.put s.sram i v }
  /-- PPUCTRL1_WR. -/
  | control1 (v : Byte) : BusStep s { s with ctrl1 := control1Of v }
  /-- PPUCTRL2_WR. -/
  | control2 (v : Byte) : BusStep s { s with ctrl2 := control2Of v }
  /-- PPUSTATUS_RD. -/
  | status : BusStep s (returnByte (statusByte s) { clearFlags s with writeCount := false })
  /-- PPUSCROLL_WR, first write. -/
  | scrollX (v : Byte) : BusStep s { s with scrollX := v, writeCount := true }
  /-- PPUSCROLL_WR, second write. -/
  | scrollY (v : Byte) : BusStep s { s with scrollY := v, writeCount := false }
  /-- PPUADDR_WR, first write. -/
  | vramHigh (v : Byte) : BusStep s { s with vramAddr := vramHigh v, writeCount := true }
  /-- PPUADDR_WR, second write. -/
  | vramLow (v : Byte) : BusStep s { s with vramAddr := vramLow s.vramAddr v, writeCount := false }
  /-- PPUDATA_RD. -/
  | vramRead : BusStep s (returnByte 0 (vramAdvance s))
  /-- PPUDATA_WR. -/
  | vramStore (v : Byte) : BusStep s (vramAdvance (vramStore s.vramAddr v s))
  /-- SPRDMA_WR. -/
  | dma (v : Byte) : BusStep s (spriteDma v s)
  /-- JOY1_RD, JOY2_RD. -/
  | ctrlRead (c : Fin 2) : BusStep s (ctrlRead c s)
  /-- JOY1_WR. -/
  | strobe (bit : Bool) : BusStep s (strobeWrite bit s)

/-- With no fault set, a bus operation is performed, and its next state is one of `BusStep`'s. -/
theorem execBus_step {s : State} (h : s.fault = none) (i : Instr) : ∃ t, execBus i s = .next t ∧ BusStep s t := by
  cases i with
  | prgRd addr =>
    refine ⟨_, accept_of_ok h, ?_⟩
    split
    · exact .returns _
    · exact .faults ..
  | ppuscrollWr addr data =>
    refine ⟨_, accept_of_ok h, ?_⟩
    split
    · exact .scrollY _
    · exact .scrollX _
  | ppuaddrWr addr data =>
    refine ⟨_, accept_of_ok h, ?_⟩
    split
    · exact .vramLow _
    · exact .vramHigh _
  | ppudataRd addr =>
    refine ⟨_, accept_of_ok h, ?_⟩
    simp only [vramRead, vramReadIsPure, Bool.false_eq_true, if_false]
    split
    · exact .faults ..
    · exact .vramRead
  | ppudataWr addr data =>
    refine ⟨_, accept_of_ok h, ?_⟩
    split
    · exact .faults ..
    · exact .vramStore _
  | ramWr addr data => exact ⟨_, accept_of_ok h, .ram _ _ (ramIndex_lt addr)⟩
  | sramWr addr data => exact ⟨_, accept_of_ok h, .sram _ _ (sramIndex_lt addr)⟩
  | ppuctrl1Wr addr data => exact ⟨_, accept_of_ok h, .control1 _⟩
  | ppuctrl2Wr addr data => exact ⟨_, accept_of_ok h, .control2 _⟩
  | ppustatusRd addr => exact ⟨_, accept_of_ok h, .status⟩
  | sprdmaWr data => exact ⟨_, accept_of_ok h, .dma _⟩
  | joy1Rd => exact ⟨_, accept_of_ok h, .ctrlRead _⟩
  | joy2Rd => exact ⟨_, accept_of_ok h, .ctrlRead _⟩
  | joy1Wr data => exact ⟨_, accept_of_ok h, .strobe _⟩
  | tick | nmiAck | reset | setButton | create | advanceFrame | paletteQuery | loadCart => exact ⟨s, rfl, .ignored⟩
  | spraddrWr | sprdataWr | apuWr4000 | apuWr4010 | apuWr4015 | apuWr4017 => exact ⟨_, accept_of_ok h, .ignored⟩
  | ramRd | sramRd | ppuctrl1Rd | ppuctrl2Rd | spraddrRd | sprdataRd | ppuscrollRd | ppuaddrRd | apuRd4000 | apuRd4010
  | apuRd4015 => exact ⟨_, accept_of_ok h, .returns _⟩
  | prgWr | ppustatusWr | sprdmaRd | unmappedRd4018 | unmappedRd4020 | unmappedRd4040 | unmappedRd4080 | unmappedRd4100
  | unmappedRd4200 | unmappedRd4400 | unmappedRd4800 | unmappedRd5000 | unmappedWr4018 | unmappedWr4020 | unmappedWr4040
  | unmappedWr4080 | unmappedWr4100 | unmappedWr4200 | unmappedWr4400 | unmappedWr4800 | unmappedWr5000 =>
    exact ⟨_, accept_of_ok h, .faults ..⟩

/-- The operations the bus decode yields (R72). -/
def isBusOperation : Instr → Bool
  | .tick _ | .nmiAck _ | .reset _ | .setButton _ _ _ | .create | .advanceFrame | .paletteQuery _ _ _ | .loadCart => false
  | _ => true

/-- Inside a longer operation a bus operation has the meaning `exec` gives it. -/
theorem execBus_eq_exec (i : Instr) (h : isBusOperation i = true) (s : State) : execBus i s = exec i s := by
  cases i <;> first | rfl | cases h

theorem portRead_isBusOperation (a : Addr) : isBusOperation (portRead a) = true := by
  unfold portRead
  repeat' split
  all_goals rfl

theorem ioRead_isBusOperation (a : Addr) : isBusOperation (ioRead a) = true := by
  unfold ioRead
  repeat' split
  all_goals rfl

theorem unmappedRead_isBusOperation (a : Addr) : isBusOperation (unmappedRead a) = true := by
  unfold unmappedRead
  repeat' split
  all_goals rfl

theorem decodeRead_isBusOperation (a : Addr) : isBusOperation (decodeRead a) = true := by
  unfold decodeRead
  repeat' split
  · rfl
  · exact portRead_isBusOperation ..
  · exact ioRead_isBusOperation ..
  · exact unmappedRead_isBusOperation ..
  all_goals rfl

theorem portWrite_isBusOperation (a : Addr) (v : Byte) : isBusOperation (portWrite a v) = true := by
  unfold portWrite
  repeat' split
  all_goals rfl

theorem ioWrite_isBusOperation (a : Addr) (v : Byte) : isBusOperation (ioWrite a v) = true := by
  unfold ioWrite
  repeat' split
  all_goals rfl

theorem unmappedWrite_isBusOperation (a : Addr) (v : Byte) : isBusOperation (unmappedWrite a v) = true := by
  unfold unmappedWrite
  repeat' split
  all_goals rfl

theorem decodeWrite_isBusOperation (a : Addr) (v : Byte) : isBusOperation (decodeWrite a v) = true := by
  unfold decodeWrite
  repeat' split
  · rfl
  · exact portWrite_isBusOperation ..
  · exact ioWrite_isBusOperation ..
  · exact unmappedWrite_isBusOperation ..
  all_goals rfl

/-- One access of the CPU is `exec` of the operation its address decodes to (R72). -/
theorem performAccess_eq_exec {op : BusOp} {s t : State} (h : exec op.decode s = .next t) : performAccess op s = t := by
  have hb : isBusOperation op.decode = true := by
    cases op
    · exact decodeRead_isBusOperation _
    · exact decodeWrite_isBusOperation _ _
  unfold performAccess
  rw [execBus_eq_exec _ hb, h]

theorem performAccess_step {s : State} (h : s.fault = none) (op : BusOp) : BusStep s (performAccess op s) := by
  obtain ⟨t, ht, hs⟩ := execBus_step h op.decode
  unfold performAccess
  rw [ht]
  exact hs

@[simp] theorem performAccesses_nil (s : State) : performAccesses [] s = s := rfl

theorem performAccesses_cons {s : State} (h : s.fault = none) (op : BusOp) (ops : List BusOp) :
    performAccesses (op :: ops) s = performAccesses ops (performAccess op s) := by
  simp [performAccesses, h]

/-- With a fault set, no further access is performed (R214). -/
theorem performAccesses_faulted {s : State} (h : s.fault ≠ none) (ops : List BusOp) : performAccesses ops s = s := by
  cases ops <;> simp [performAccesses, h]

/-- What every bus step keeps, every sequence of accesses keeps. -/
theorem performAccesses_keeps {P : State → Prop} (hstep : ∀ {s t}, s.fault = none → P s → BusStep s t → P t)
    (ops : List BusOp) {s : State} (hs : P s) : P (performAccesses ops s) := by
  induction ops generalizing s with
  | nil => exact hs
  | cons op ops ih =>
    by_cases hf : s.fault = none
    · rw [performAccesses_cons hf]
      exact ih (hstep hf hs (performAccess_step hf op))
    · rwa [performAccesses_faulted hf]

end Sys2Proof.Machine
end

