-- ==== Sys2Proof/Laws/Decode.lean ====
section
/-! SUPPORT. The fields of the words the encoder writes (R73), and what the format of each kind says of them. -/

namespace Sys2Proof

/-- The kind of an operation's word (R73). -/
def Instr.kind : Instr → Nat
  | .ramRd _ => 0
  | .ramWr _ _ => 1
  | .ppuctrl1Rd _ => 0
  | .ppuctrl1Wr _ _ => 1
  | .ppuctrl2Rd _ => 0
  | .ppuctrl2Wr _ _ => 1
  | .ppustatusRd _ => 0
  | .ppustatusWr _ _ => 1
  | .spraddrRd _ => 0
  | .spraddrWr _ _ => 1
  | .sprdataRd _ => 0
  | .sprdataWr _ _ => 1
  | .ppuscrollRd _ => 0
  | .ppuscrollWr _ _ => 1
  | .ppuaddrRd _ => 0
  | .ppuaddrWr _ _ => 1
  | .ppudataRd _ => 0
  | .ppudataWr _ _ => 1
  | .apuRd4000 _ => 0
  | .apuRd4010 _ => 0
  | .apuRd4015 => 0
  | .apuWr4000 _ _ => 1
  | .apuWr4010 _ _ => 1
  | .apuWr4015 _ => 1
  | .apuWr4017 _ => 1
  | .sprdmaRd => 0
  | .sprdmaWr _ => 1
  | .joy1Rd => 0
  | .joy1Wr _ => 1
  | .joy2Rd => 0
  | .unmappedRd4018 _ => 0
  | .unmappedRd4020 _ => 0
  | .unmappedRd4040 _ => 0
  | .unmappedRd4080 _ => 0
  | .unmappedRd4100 _ => 0
  | .unmappedRd4200 _ => 0
  | .unmappedRd4400 _ => 0
  | .unmappedRd4800 _ => 0
  | .unmappedRd5000 _ => 0
  | .unmappedWr4018 _ _ => 1
  | .unmappedWr4020 _ _ => 1
  | .unmappedWr4040 _ _ => 1
  | .unmappedWr4080 _ _ => 1
  | .unmappedWr4100 _ _ => 1
  | .unmappedWr4200 _ _ => 1
  | .unmappedWr4400 _ _ => 1
  | .unmappedWr4800 _ _ => 1
  | .unmappedWr5000 _ _ => 1
  | .sramRd _ => 0
  | .sramWr _ _ => 1
  | .prgRd _ => 0
  | .prgWr _ _ => 1
  | .tick _ => 2
  | .nmiAck _ => 3
  | .reset _ => 4
  | .setButton _ _ _ => 5
  | .create => 6
  | .advanceFrame => 7
  | .paletteQuery _ _ _ => 8
  | .loadCart => 9

/-- The lowest bit and the length of the reserved field of a kind's format (R73). -/
def reservedField : Nat → Nat × Nat
  | 0 | 1 => (24, 4)
  | 2 | 3 | 4 => (16, 12)
  | 5 | 8 => (5, 23)
  | _ => (0, 28)

theorem field_busReadWord_kind (a : Addr) : OpWord.field (busReadWord a) 28 4 = 0 := by
  simp only [OpWord.field, busReadWord, BitVec.toNat_ofNat]; omega

theorem field_busReadWord_reserved (a : Addr) : OpWord.field (busReadWord a) 24 4 = 0 := by
  simp only [OpWord.field, busReadWord, BitVec.toNat_ofNat]; omega

theorem field_busReadWord_addr (a : Addr) : OpWord.field (busReadWord a) 8 16 = a.toNat := by
  simp only [OpWord.field, busReadWord, BitVec.toNat_ofNat]; omega

theorem field_busWriteWord_kind (a : Addr) (v : Byte) : OpWord.field (busWriteWord a v) 28 4 = 1 := by
  simp only [OpWord.field, busWriteWord, BitVec.toNat_ofNat]; omega

theorem field_busWriteWord_reserved (a : Addr) (v : Byte) : OpWord.field (busWriteWord a v) 24 4 = 0 := by
  simp only [OpWord.field, busWriteWord, BitVec.toNat_ofNat]; omega

theorem field_busWriteWord_addr (a : Addr) (v : Byte) : OpWord.field (busWriteWord a v) 8 16 = a.toNat := by
  simp only [OpWord.field, busWriteWord, BitVec.toNat_ofNat]; omega

theorem field_busWriteWord_data (a : Addr) (v : Byte) : OpWord.field (busWriteWord a v) 0 8 = v.toNat := by
  simp only [OpWord.field, busWriteWord, BitVec.toNat_ofNat]; omega

theorem field_cyclesWord_kind (k : Nat) (hk : k < 16) (n : BitVec 16) : OpWord.field (cyclesWord k n) 28 4 = k := by
  simp only [OpWord.field, cyclesWord, BitVec.toNat_ofNat]; omega

theorem field_cyclesWord_reserved (k : Nat) (n : BitVec 16) : OpWord.field (cyclesWord k n) 16 12 = 0 := by
  simp only [OpWord.field, cyclesWord, BitVec.toNat_ofNat]; omega

theorem field_cyclesWord_cycles (k : Nat) (n : BitVec 16) : OpWord.field (cyclesWord k n) 0 16 = n.toNat := by
  simp only [OpWord.field, cyclesWord, BitVec.toNat_ofNat]; omega

end Sys2Proof
end

