-- ==== Sys2Proof/Laws/Timing.lean ====
section
/-! SUPPORT. One pass of FOLD field by field, how the loop runs, and what TICK leaves alone. -/

namespace Sys2Proof.Machine

variable (s : State)

/-- A pass of FOLD that enters scanline 241 (R166, R167). -/
theorem nextScanline_vblank (h : s.scanline = 240) :
    nextScanline s = { s with
      dot := s.dot - 341, scanline := 241, vblank := true, frameDone := true, frameCount := s.frameCount + 1
      nmiPending := s.nmiPending || s.ctrl1.nmiEnabled } := by
  have h1 : s.scanline + 1 = vblankScanline := by rw [h]; rfl
  unfold nextScanline enterVblank signalNmi
  cases hn : s.ctrl1.nmiEnabled <;> simp [h1, hn, dotsPerScanline, vblankScanline]

/-- A pass of FOLD that leaves scanline 260 (R166, R169). -/
theorem nextScanline_wrap (h : s.scanline = 260) :
    nextScanline s = { s with
      dot := s.dot - 341, scanline := -1, vblank := false, sprite0Hit := false, spritesLost := false } := by
  have h1 : s.scanline + 1 = 261 := by rw [h]; rfl
  unfold nextScanline
  simp [h1, dotsPerScanline, vblankScanline, scanlineLast, wrapFrame, clearFlags, scanlineFirst]

/-- Every other pass of FOLD moves the scan position on and does nothing else (R166). -/
theorem nextScanline_plain (h : s.scanline ≠ 240) (h' : s.scanline ≠ 260) :
    nextScanline s = { s with dot := s.dot - 341, scanline := s.scanline + 1 } := by
  have h1 : ¬ s.scanline + 1 = 241 := by omega
  have h2 : ¬ s.scanline + 1 = 261 := by omega
  simp [nextScanline, vblankScanline, scanlineLast, dotsPerScanline, h1, h2]

/-- Everything one pass of FOLD can do. -/
theorem nextScanline_cases :
    (s.scanline = 240 ∧ nextScanline s = { s with
      dot := s.dot - 341, scanline := 241, vblank := true, frameDone := true, frameCount := s.frameCount + 1
      nmiPending := s.nmiPending || s.ctrl1.nmiEnabled }) ∨
    (s.scanline = 260 ∧ nextScanline s = { s with
      dot := s.dot - 341, scanline := -1, vblank := false, sprite0Hit := false, spritesLost := false }) ∨
    (s.scanline ≠ 240 ∧ s.scanline ≠ 260 ∧
      nextScanline s = { s with dot := s.dot - 341, scanline := s.scanline + 1 }) := by
  by_cases h : s.scanline = 240
  · exact .inl ⟨h, nextScanline_vblank s h⟩
  · by_cases h' : s.scanline = 260
    · exact .inr (.inl ⟨h', nextScanline_wrap s h'⟩)
    · exact .inr (.inr ⟨h, h', nextScanline_plain s h h'⟩)

@[simp] theorem nextScanline_dot : (nextScanline s).dot = s.dot - 341 := by
  rcases nextScanline_cases s with ⟨-, h⟩ | ⟨-, h⟩ | ⟨-, -, h⟩ <;> rw [h]

/-- The passes of FOLD run until less than a scanline's worth of dots is left. -/
theorem foldLoop_dot (k : Nat) (hk : s.dot / 341 ≤ k) : (foldLoop k s).dot = s.dot % 341 := by
  induction k generalizing s with
  | zero => simp only [foldLoop]; omega
  | succ k ih =>
    unfold foldLoop dotsPerScanline
    split
    · rw [ih _ (by rw [nextScanline_dot]; omega), nextScanline_dot]
      omega
    · omega

/-- FOLD leaves the remainder of the dots (R166). -/
theorem foldDots_dot : (foldDots s).dot = s.dot % 341 := foldLoop_dot s _ (Nat.le_refl _)

/-- What one pass of FOLD keeps, FOLD keeps. -/
theorem foldDots_keeps {P : State → Prop} (hstep : ∀ {t}, P t → 341 ≤ t.dot → P (nextScanline t)) {s : State} (hs : P s) :
    P (foldDots s) := by
  unfold foldDots
  generalize s.dot / dotsPerScanline = k
  induction k generalizing s with
  | zero => exact hs
  | succ k ih =>
    unfold foldLoop
    split
    · rename_i h
      exact ih (hstep hs h)
    · exact hs

/-- Everything the sprite-zero test can do (R168). -/
theorem spriteZeroTest_eq : spriteZeroTest s = { s with sprite0Hit := s.sprite0Hit || spriteZeroAt s } := by
  unfold spriteZeroTest
  split <;> simp_all

/-- What one pass of FOLD, the sprite-zero test and the passing of cycles keep, TICK keeps (R165). -/
theorem tickCycles_keeps {P : State → Prop} (n : Nat)
    (hadd : ∀ {t}, P t → P { t with cpuCycles := t.cpuCycles + n, dot := t.dot + 3 * n })
    (hstep : ∀ {t}, P t → 341 ≤ t.dot → P (nextScanline t)) (htest : ∀ {t}, P t → P (spriteZeroTest t)) {s : State}
    (hs : P s) : P (tickCycles n s) :=
  htest (foldDots_keeps hstep (hadd hs))

/-- The fields no timing operation touches, as one equation: what TICK leaves alone (R165 to R169). -/
def sameButTiming (s t : State) : Prop :=
  t = { s with
    dot := t.dot, scanline := t.scanline, frameCount := t.frameCount, cpuCycles := t.cpuCycles, vblank := t.vblank
    sprite0Hit := t.sprite0Hit, spritesLost := t.spritesLost, nmiPending := t.nmiPending, frameDone := t.frameDone }

theorem sameButTiming_tickCycles (n : Nat) : sameButTiming s (tickCycles n s) := by
  refine tickCycles_keeps (P := sameButTiming s) n ?_ ?_ ?_ rfl
  · intro t h; unfold sameButTiming at h ⊢; rw [h]
  · intro t h _
    unfold sameButTiming at h ⊢
    rcases nextScanline_cases t with ⟨-, e⟩ | ⟨-, e⟩ | ⟨-, -, e⟩ <;> rw [e, h]
  · intro t h; unfold sameButTiming at h ⊢; rw [spriteZeroTest_eq, h]

/-- TICK adds its cycles to the running total (R165). -/
@[simp] theorem tickCycles_cpuCycles (n : Nat) : (tickCycles n s).cpuCycles = s.cpuCycles + n := by
  unfold tickCycles
  rw [spriteZeroTest_eq]
  refine foldDots_keeps (P := fun t => t.cpuCycles = s.cpuCycles + n) ?_ rfl
  intro t h _
  rcases nextScanline_cases t with ⟨-, e⟩ | ⟨-, e⟩ | ⟨-, -, e⟩ <;> rw [e, ← h]

/-- After TICK less than a scanline's worth of dots is left (R165 (c)). -/
theorem tickCycles_dot (n : Nat) : (tickCycles n s).dot = (s.dot + 3 * n) % 341 := by
  unfold tickCycles
  rw [spriteZeroTest_eq]
  exact foldDots_dot _

/-! How often a fold enters scanline 241 and wraps. Scanlines are counted from -1: line `l` after `j` passes is
`(l + j) % 262`, scanline 241 is line 242. -/

/-- Entries into scanline 241 in `j` passes from the current scanline. -/
def passEntries (j : Nat) : Int := (s.scanline + 1 + j + 20) / 262 - (s.scanline + 1 + 20) / 262

/-- Wraps from scanline 260 to -1 in `j` passes from the current scanline. -/
def passWraps (j : Nat) : Int := (s.scanline + 1 + j) / 262

/-- What `t` holds after `j` passes of FOLD from `s` (R166, R167, R169). -/
structure Folded (s t : State) (j : Nat) : Prop where
  dot : t.dot + 341 * j = s.dot
  low : -1 ≤ t.scanline
  high : t.scanline ≤ 260
  line : t.scanline + 1 = (s.scanline + 1 + j) % 262
  frameCount : (t.frameCount : Int) = s.frameCount + passEntries s j
  frameDone : t.frameDone = (s.frameDone || decide (0 < passEntries s j))
  nmiPending : t.nmiPending = (s.nmiPending || (s.ctrl1.nmiEnabled && decide (0 < passEntries s j)))
  ctrl1 : t.ctrl1 = s.ctrl1
  vblank : t.vblank = if 0 < passEntries s j ∨ 0 < passWraps s j then decide (241 ≤ t.scanline) else s.vblank
  spritesLost : t.spritesLost = if 0 < passWraps s j then false else s.spritesLost
  sprite0Hit : t.sprite0Hit = if 0 < passWraps s j then false else s.sprite0Hit
  spriteRam : t.spriteRam = s.spriteRam

variable {s} {t : State}

/-- One more pass enters scanline 241 from scanline 240 only and wraps from scanline 260 only. -/
theorem pass_counts {j : Nat} (hs : -1 ≤ s.scanline) (ht : t.scanline + 1 = (s.scanline + 1 + j) % 262) :
    0 ≤ passEntries s j ∧ 0 ≤ passWraps s j ∧
      ((t.scanline = 240 ∧ passEntries s (j + 1) = passEntries s j + 1 ∧ passWraps s (j + 1) = passWraps s j) ∨
        (t.scanline = 260 ∧ passEntries s (j + 1) = passEntries s j ∧ passWraps s (j + 1) = passWraps s j + 1) ∨
        (t.scanline ≠ 240 ∧ t.scanline ≠ 260 ∧ passEntries s (j + 1) = passEntries s j
          ∧ passWraps s (j + 1) = passWraps s j)) := by
  simp only [passEntries, passWraps, Nat.cast_add, Nat.cast_one]
  omega

/-- A further pass of FOLD. -/
theorem Folded.step {j : Nat} (hs : -1 ≤ s.scanline) (h : Folded s t j) (hd : 341 ≤ t.dot) :
    Folded s (nextScanline t) (j + 1) := by
  have hc := pass_counts hs h.line
  have hdot := h.dot
  have hlow := h.low
  have hhigh := h.high
  have hline := h.line
  obtain ⟨he, hw, hc⟩ := hc
  rcases nextScanline_cases t with ⟨h1, e⟩ | ⟨h1, e⟩ | ⟨h1, h2, e⟩
  · obtain ⟨-, e1, e2⟩ : t.scanline = 240 ∧ _ ∧ _ := by
      rcases hc with hc | hc | hc <;> first | exact hc | exact absurd h1 (by omega)
    have hp : 0 < passEntries s j + 1 := by omega
    rw [e]
    constructor <;> simp only [e1, e2, hp, decide_true, Bool.or_true, Bool.and_true, true_or, if_true]
    case frameCount => have := h.frameCount; push_cast; omega
    case nmiPending =>
      rw [h.nmiPending, h.ctrl1]
      cases s.nmiPending <;> cases s.ctrl1.nmiEnabled <;> simp
    case ctrl1 => exact h.ctrl1
    case spritesLost => exact h.spritesLost
    case sprite0Hit => exact h.sprite0Hit
    case spriteRam => exact h.spriteRam
    case vblank => simp
    all_goals omega
  · obtain ⟨-, e1, e2⟩ : t.scanline = 260 ∧ _ ∧ _ := by
      rcases hc with hc | hc | hc <;> first | exact hc | exact absurd h1 (by omega)
    have hp : 0 < passWraps s j + 1 := by omega
    rw [e]
    constructor <;> simp only [e1, e2, hp, or_true, if_true]
    case frameCount => exact h.frameCount
    case frameDone => exact h.frameDone
    case nmiPending => exact h.nmiPending
    case ctrl1 => exact h.ctrl1
    case spriteRam => exact h.spriteRam
    case vblank => simp
    all_goals omega
  · obtain ⟨-, -, e1, e2⟩ : t.scanline ≠ 240 ∧ t.scanline ≠ 260 ∧ _ ∧ _ := by
      rcases hc with hc | hc | hc <;> first | exact hc | exact absurd hc.1 (by omega)
    rw [e]
    constructor <;> simp only [e1, e2]
    case frameCount => exact h.frameCount
    case frameDone => exact h.frameDone
    case nmiPending => exact h.nmiPending
    case ctrl1 => exact h.ctrl1
    case spritesLost => exact h.spritesLost
    case sprite0Hit => exact h.sprite0Hit
    case spriteRam => exact h.spriteRam
    case vblank =>
      rw [h.vblank]
      split
      · exact decide_eq_decide.mpr (by omega)
      · rfl
    all_goals omega

/-- Everything FOLD does from a scan position in range (R166). -/
theorem foldDots_folded (h1 : -1 ≤ s.scanline) (h2 : s.scanline ≤ 260) : Folded s (foldDots s) (s.dot / 341) := by
  have key : ∃ j, Folded s (foldDots s) j := by
    refine foldDots_keeps (P := fun t => ∃ j, Folded s t j) (fun ⟨j, h⟩ hd => ⟨j + 1, h.step h1 hd⟩) ⟨0, ?_⟩
    have e1 : passEntries s 0 = 0 := by simp [passEntries]
    have e2 : passWraps s 0 = 0 := by simp only [passWraps, Nat.cast_zero]; omega
    constructor
    all_goals first | (simp [e1, e2]; done) | omega
  obtain ⟨j, h⟩ := key
  have hd := foldDots_dot s
  have hj := h.dot
  have : j = s.dot / 341 := by omega
  rwa [← this]

end Sys2Proof.Machine
end

