-- ==== Sys2Proof/Laws/Driver.lean ====
section
/-! SUPPORT. What the frame driver and the loader can do, said once: what every access, every pass of FOLD and the taking of a
call keep, an entry into the CPU, an iteration and the whole frame loop keep. -/

namespace Sys2Proof.Machine

/-- A property of states that the parts of the frame driver keep. -/
structure Kept (P : State → Prop) : Prop where
  bus : ∀ {s t}, s.fault = none → P s → BusStep s t → P t
  tick : ∀ {s} (n : Nat), P s → P (tickCycles n s)
  /-- The agents' inputs, `nmi_pending` and `frame_done` do not matter to it. -/
  inputs : ∀ {s} (e : Env) (p d : Bool), P s → P { s with env := e, nmiPending := p, frameDone := d }

variable {P : State → Prop} {s t : State}

theorem Kept.accesses (k : Kept P) (ops : List BusOp) (h : P s) : P (performAccesses ops s) :=
  performAccesses_keeps (fun hf hp hb => k.bus hf hp hb) ops h

/-- An entry into the CPU keeps it (R181, R240). -/
theorem Kept.cpuEntry (k : Kept P) (ops : List BusOp) (m : Nat) (h : P s) : P (cpuEntry ops m s) := by
  unfold Machine.cpuEntry
  simp only
  split
  · exact k.tick m (k.accesses ops h)
  · exact k.accesses ops h

/-- Taking a pending NMI keeps it (R181). -/
theorem Kept.takeNmi (k : Kept P) (ops : List BusOp) (m : Nat) (h : P s) : P (takeNmi ops m s) :=
  k.cpuEntry ops m (k.inputs s.env false s.frameDone h)

theorem Kept.callStep (k : Kept P) (h : P s) : P (callStep s).2 := by
  unfold Machine.callStep
  split
  · exact k.inputs _ s.nmiPending s.frameDone h
  · exact k.inputs _ s.nmiPending s.frameDone h

theorem Kept.callNmi (k : Kept P) (h : P s) : P (callNmi s).2 := by
  unfold Machine.callNmi
  split
  · exact k.inputs _ s.nmiPending s.frameDone h
  · exact k.inputs _ s.nmiPending s.frameDone h

/-- One iteration of the frame loop keeps it (R182). -/
theorem Kept.frameIteration (k : Kept P) (h : P s) : P (frameIteration s) := by
  have h1 := k.accesses (Machine.callStep s).1.accesses (k.callStep h)
  unfold Machine.frameIteration serviceNmi
  simp only
  split
  · split
    · exact k.takeNmi _ _ (k.callNmi (k.tick _ h1))
    · exact k.tick _ h1
  · exact h1

/-- The frame loop keeps it, and ends with a block fault or with `frame_done` set (R182, R214). -/
theorem Kept.frameLoop (k : Kept P) (n : Nat) (h : P s) (ht : frameLoop n s = .next t) :
    P t ∧ (t.fault ≠ none ∨ t.frameDone = true) := by
  induction n generalizing s with
  | zero => cases ht
  | succ n ih =>
    unfold Machine.frameLoop at ht
    simp only at ht
    split at ht
    · exact ih (k.frameIteration h) ht
    · rename_i hc
      cases ht
      refine ⟨k.frameIteration h, ?_⟩
      cases hd : (Machine.frameIteration s).frameDone
      · exact .inl fun hf => hc ⟨hf, hd⟩
      · exact .inr rfl

/-- Everything LOAD_CART of one image can do (R191, R196). -/
theorem loadImage_cases (im : Image) (s : State) :
    (∃ w, loadCheck im = .ok w ∧ loadImage im s = answer (.load (.ok w)) { s with cart := cartOf im })
      ∨ ∃ e, loadCheck im = .error e ∧ loadImage im s = answer (.load (.error e)) s := by
  unfold loadImage
  cases h : loadCheck im with
  | ok w => exact .inl ⟨w, rfl, rfl⟩
  | error e => exact .inr ⟨e, rfl, rfl⟩

/-- Everything LOAD_CART can do. -/
theorem execLoadCart_cases (h : s.fault = none) :
    (s.env.images = [] ∧ execLoadCart s = .next (loadImage Image.empty s))
      ∨ ∃ im ims, s.env.images = im :: ims
          ∧ execLoadCart s = .next (loadImage im { s with env := { s.env with images := ims } }) := by
  cases hi : s.env.images with
  | nil => exact .inl ⟨rfl, by simp [execLoadCart, accept, h, hi]⟩
  | cons im ims => exact .inr ⟨im, ims, rfl, by simp [execLoadCart, accept, h, hi]⟩

/-- An accepted image has 1 to 255 PRG banks and all its bytes (R191). -/
theorem loadCheck_ok {im : Image} {w : Bool} (h : loadCheck im = .ok w) :
    1 ≤ (Memory.get im.bytes 4).toNat ∧ (Memory.get im.bytes 4).toNat ≤ 255
      ∧ imageNeed (Memory.get im.bytes 6) (Memory.get im.bytes 4).toNat ≤ im.length := by
  unfold loadCheck at h
  simp only at h
  repeat' split at h
  all_goals first | cases h; done | omega

end Sys2Proof.Machine
end

