-- ==== Sys2Proof/Laws/PerInstr.lean ====
section
/-! SUPPORT. Statements about every operation as syntax, one lemma per constructor. Family WordFormat (R73): the word that
carries an operation has its format's kind, and 0 in its format's reserved field. -/

namespace Sys2Proof.Laws

/-- The word of `i` has the kind of `i` and a zero reserved field (R73). -/
def WordFormat.Statement (i : Instr) : Prop :=
  OpWord.field (encode i) 28 4 = i.kind
    ∧ OpWord.field (encode i) (reservedField i.kind).1 (reservedField i.kind).2 = 0

theorem WordFormat.ramRd (addr : Addr) : WordFormat.Statement (.ramRd addr) :=
  ⟨field_busReadWord_kind _, field_busReadWord_reserved _⟩

theorem WordFormat.ramWr (addr : Addr) (data : Byte) : WordFormat.Statement (.ramWr addr data) :=
  ⟨field_busWriteWord_kind _ _, field_busWriteWord_reserved _ _⟩

theorem WordFormat.ppuctrl1Rd (addr : Addr) : WordFormat.Statement (.ppuctrl1Rd addr) :=
  ⟨field_busReadWord_kind _, field_busReadWord_reserved _⟩

theorem WordFormat.ppuctrl1Wr (addr : Addr) (data : Byte) : WordFormat.Statement (.ppuctrl1Wr addr data) :=
  ⟨field_busWriteWord_kind _ _, field_busWriteWord_reserved _ _⟩

theorem WordFormat.ppuctrl2Rd (addr : Addr) : WordFormat.Statement (.ppuctrl2Rd addr) :=
  ⟨field_busReadWord_kind _, field_busReadWord_reserved _⟩

theorem WordFormat.ppuctrl2Wr (addr : Addr) (data : Byte) : WordFormat.Statement (.ppuctrl2Wr addr data) :=
  ⟨field_busWriteWord_kind _ _, field_busWriteWord_reserved _ _⟩

theorem WordFormat.ppustatusRd (addr : Addr) : WordFormat.Statement (.ppustatusRd addr) :=
  ⟨field_busReadWord_kind _, field_busReadWord_reserved _⟩

theorem WordFormat.ppustatusWr (addr : Addr) (data : Byte) : WordFormat.Statement (.ppustatusWr addr data) :=
  ⟨field_busWriteWord_kind _ _, field_busWriteWord_reserved _ _⟩

theorem WordFormat.spraddrRd (addr : Addr) : WordFormat.Statement (.spraddrRd addr) :=
  ⟨field_busReadWord_kind _, field_busReadWord_reserved _⟩

theorem WordFormat.spraddrWr (addr : Addr) (data : Byte) : WordFormat.Statement (.spraddrWr addr data) :=
  ⟨field_busWriteWord_kind _ _, field_busWriteWord_reserved _ _⟩

theorem WordFormat.sprdataRd (addr : Addr) : WordFormat.Statement (.sprdataRd addr) :=
  ⟨field_busReadWord_kind _, field_busReadWord_reserved _⟩

theorem WordFormat.sprdataWr (addr : Addr) (data : Byte) : WordFormat.Statement (.sprdataWr addr data) :=
  ⟨field_busWriteWord_kind _ _, field_busWriteWord_reserved _ _⟩

theorem WordFormat.ppuscrollRd (addr : Addr) : WordFormat.Statement (.ppuscrollRd addr) :=
  ⟨field_busReadWord_kind _, field_busReadWord_reserved _⟩

theorem WordFormat.ppuscrollWr (addr : Addr) (data : Byte) : WordFormat.Statement (.ppuscrollWr addr data) :=
  ⟨field_busWriteWord_kind _ _, field_busWriteWord_reserved _ _⟩

theorem WordFormat.ppuaddrRd (addr : Addr) : WordFormat.Statement (.ppuaddrRd addr) :=
  ⟨field_busReadWord_kind _, field_busReadWord_reserved _⟩

theorem WordFormat.ppuaddrWr (addr : Addr) (data : Byte) : WordFormat.Statement (.ppuaddrWr addr data) :=
  ⟨field_busWriteWord_kind _ _, field_busWriteWord_reserved _ _⟩

theorem WordFormat.ppudataRd (addr : Addr) : WordFormat.Statement (.ppudataRd addr) :=
  ⟨field_busReadWord_kind _, field_busReadWord_reserved _⟩

theorem WordFormat.ppudataWr (addr : Addr) (data : Byte) : WordFormat.Statement (.ppudataWr addr data) :=
  ⟨field_busWriteWord_kind _ _, field_busWriteWord_reserved _ _⟩

theorem WordFormat.apuRd4000 (addr : Addr) : WordFormat.Statement (.apuRd4000 addr) :=
  ⟨field_busReadWord_kind _, field_busReadWord_reserved _⟩

theorem WordFormat.apuRd4010 (addr : Addr) : WordFormat.Statement (.apuRd4010 addr) :=
  ⟨field_busReadWord_kind _, field_busReadWord_reserved _⟩

theorem WordFormat.apuRd4015 : WordFormat.Statement .apuRd4015 :=
  ⟨field_busReadWord_kind _, field_busReadWord_reserved _⟩

theorem WordFormat.apuWr4000 (addr : Addr) (data : Byte) : WordFormat.Statement (.apuWr4000 addr data) :=
  ⟨field_busWriteWord_kind _ _, field_busWriteWord_reserved _ _⟩

theorem WordFormat.apuWr4010 (addr : Addr) (data : Byte) : WordFormat.Statement (.apuWr4010 addr data) :=
  ⟨field_busWriteWord_kind _ _, field_busWriteWord_reserved _ _⟩

theorem WordFormat.apuWr4015 (data : Byte) : WordFormat.Statement (.apuWr4015 data) :=
  ⟨field_busWriteWord_kind _ _, field_busWriteWord_reserved _ _⟩

theorem WordFormat.apuWr4017 (data : Byte) : WordFormat.Statement (.apuWr4017 data) :=
  ⟨field_busWriteWord_kind _ _, field_busWriteWord_reserved _ _⟩

theorem WordFormat.sprdmaRd : WordFormat.Statement .sprdmaRd :=
  ⟨field_busReadWord_kind _, field_busReadWord_reserved _⟩

theorem WordFormat.sprdmaWr (data : Byte) : WordFormat.Statement (.sprdmaWr data) :=
  ⟨field_busWriteWord_kind _ _, field_busWriteWord_reserved _ _⟩

theorem WordFormat.joy1Rd : WordFormat.Statement .joy1Rd :=
  ⟨field_busReadWord_kind _, field_busReadWord_reserved _⟩

theorem WordFormat.joy1Wr (data : Byte) : WordFormat.Statement (.joy1Wr data) :=
  ⟨field_busWriteWord_kind _ _, field_busWriteWord_reserved _ _⟩

theorem WordFormat.joy2Rd : WordFormat.Statement .joy2Rd :=
  ⟨field_busReadWord_kind _, field_busReadWord_reserved _⟩

theorem WordFormat.unmappedRd4018 (addr : Addr) : WordFormat.Statement (.unmappedRd4018 addr) :=
  ⟨field_busReadWord_kind _, field_busReadWord_reserved _⟩

theorem WordFormat.unmappedRd4020 (addr : Addr) : WordFormat.Statement (.unmappedRd4020 addr) :=
  ⟨field_busReadWord_kind _, field_busReadWord_reserved _⟩

theorem WordFormat.unmappedRd4040 (addr : Addr) : WordFormat.Statement (.unmappedRd4040 addr) :=
  ⟨field_busReadWord_kind _, field_busReadWord_reserved _⟩

theorem WordFormat.unmappedRd4080 (addr : Addr) : WordFormat.Statement (.unmappedRd4080 addr) :=
  ⟨field_busReadWord_kind _, field_busReadWord_reserved _⟩

theorem WordFormat.unmappedRd4100 (addr : Addr) : WordFormat.Statement (.unmappedRd4100 addr) :=
  ⟨field_busReadWord_kind _, field_busReadWord_reserved _⟩

theorem WordFormat.unmappedRd4200 (addr : Addr) : WordFormat.Statement (.unmappedRd4200 addr) :=
  ⟨field_busReadWord_kind _, field_busReadWord_reserved _⟩

theorem WordFormat.unmappedRd4400 (addr : Addr) : WordFormat.Statement (.unmappedRd4400 addr) :=
  ⟨field_busReadWord_kind _, field_busReadWord_reserved _⟩

theorem WordFormat.unmappedRd4800 (addr : Addr) : WordFormat.Statement (.unmappedRd4800 addr) :=
  ⟨field_busReadWord_kind _, field_busReadWord_reserved _⟩

theorem WordFormat.unmappedRd5000 (addr : Addr) : WordFormat.Statement (.unmappedRd5000 addr) :=
  ⟨field_busReadWord_kind _, field_busReadWord_reserved _⟩

theorem WordFormat.unmappedWr4018 (addr : Addr) (data : Byte) : WordFormat.Statement (.unmappedWr4018 addr data) :=
  ⟨field_busWriteWord_kind _ _, field_busWriteWord_reserved _ _⟩

theorem WordFormat.unmappedWr4020 (addr : Addr) (data : Byte) : WordFormat.Statement (.unmappedWr4020 addr data) :=
  ⟨field_busWriteWord_kind _ _, field_busWriteWord_reserved _ _⟩

theorem WordFormat.unmappedWr4040 (addr : Addr) (data : Byte) : WordFormat.Statement (.unmappedWr4040 addr data) :=
  ⟨field_busWriteWord_kind _ _, field_busWriteWord_reserved _ _⟩

theorem WordFormat.unmappedWr4080 (addr : Addr) (data : Byte) : WordFormat.Statement (.unmappedWr4080 addr data) :=
  ⟨field_busWriteWord_kind _ _, field_busWriteWord_reserved _ _⟩

theorem WordFormat.unmappedWr4100 (addr : Addr) (data : Byte) : WordFormat.Statement (.unmappedWr4100 addr data) :=
  ⟨field_busWriteWord_kind _ _, field_busWriteWord_reserved _ _⟩

theorem WordFormat.unmappedWr4200 (addr : Addr) (data : Byte) : WordFormat.Statement (.unmappedWr4200 addr data) :=
  ⟨field_busWriteWord_kind _ _, field_busWriteWord_reserved _ _⟩

theorem WordFormat.unmappedWr4400 (addr : Addr) (data : Byte) : WordFormat.Statement (.unmappedWr4400 addr data) :=
  ⟨field_busWriteWord_kind _ _, field_busWriteWord_reserved _ _⟩

theorem WordFormat.unmappedWr4800 (addr : Addr) (data : Byte) : WordFormat.Statement (.unmappedWr4800 addr data) :=
  ⟨field_busWriteWord_kind _ _, field_busWriteWord_reserved _ _⟩

theorem WordFormat.unmappedWr5000 (addr : Addr) (data : Byte) : WordFormat.Statement (.unmappedWr5000 addr data) :=
  ⟨field_busWriteWord_kind _ _, field_busWriteWord_reserved _ _⟩

theorem WordFormat.sramRd (addr : Addr) : WordFormat.Statement (.sramRd addr) :=
  ⟨field_busReadWord_kind _, field_busReadWord_reserved _⟩

theorem WordFormat.sramWr (addr : Addr) (data : Byte) : WordFormat.Statement (.sramWr addr data) :=
  ⟨field_busWriteWord_kind _ _, field_busWriteWord_reserved _ _⟩

theorem WordFormat.prgRd (addr : Addr) : WordFormat.Statement (.prgRd addr) :=
  ⟨field_busReadWord_kind _, field_busReadWord_reserved _⟩

theorem WordFormat.prgWr (addr : Addr) (data : Byte) : WordFormat.Statement (.prgWr addr data) :=
  ⟨field_busWriteWord_kind _ _, field_busWriteWord_reserved _ _⟩

theorem WordFormat.tick (n : BitVec 16) : WordFormat.Statement (.tick n) :=
  ⟨field_cyclesWord_kind _ (by decide) _, field_cyclesWord_reserved _ _⟩

theorem WordFormat.nmiAck (m : BitVec 16) : WordFormat.Statement (.nmiAck m) :=
  ⟨field_cyclesWord_kind _ (by decide) _, field_cyclesWord_reserved _ _⟩

theorem WordFormat.reset (m : BitVec 16) : WordFormat.Statement (.reset m) :=
  ⟨field_cyclesWord_kind _ (by decide) _, field_cyclesWord_reserved _ _⟩

theorem WordFormat.setButton (c : Fin 2) (b : Fin 8) (s : Bool) : WordFormat.Statement (.setButton c b s) := by
  have hs : s.toNat < 2 := by cases s <;> decide
  constructor <;> simp only [OpWord.field, encode, Instr.kind, reservedField, BitVec.toNat_ofNat] <;> omega

theorem WordFormat.create : WordFormat.Statement .create := by
  constructor <;> decide

theorem WordFormat.advanceFrame : WordFormat.Statement .advanceFrame := by
  constructor <;> decide

theorem WordFormat.paletteQuery (area : PaletteArea) (pal : Fin 4) (color : Fin 4) : WordFormat.Statement (.paletteQuery area pal color) := by
  have hs : area.code < 2 := by cases area <;> decide
  constructor <;> simp only [OpWord.field, encode, Instr.kind, reservedField, BitVec.toNat_ofNat] <;> omega

theorem WordFormat.loadCart : WordFormat.Statement .loadCart := by
  constructor <;> decide

end Sys2Proof.Laws
end

