-- ==== Sys2Proof/Tests/Slice0.lean ====
section
/-! SUPPORT. The model's own tests. Words are written out from R73, expected values are taken from spec/95 (its vector is
named), and each obligation with hypotheses has a witness that meets them. -/

namespace Sys2Proof.Tests

open Sys2Proof.Machine

/-! Well-formedness: every range check refuses its neighbours. -/

/-- One address below and one above each range is refused. -/
theorem test_wf_refuses_ram :
    [.ramRd 0x2000, .ramWr 0x2000 0, .sramRd 0x5FFF, .sramRd 0x8000, .sramWr 0x5FFF 0, .sramWr 0x8000 0,
      .prgRd 0x7FFF, .prgWr 0x7FFF 0].all
      (fun i : Instr => !i.wf) = true := by decide

/-- Both ends of each range are accepted. -/
theorem test_wf_accepts_ram :
    [.ramRd 0x0000, .ramRd 0x1FFF, .ramWr 0x0000 0, .ramWr 0x1FFF 0, .sramRd 0x6000, .sramRd 0x7FFF, .sramWr 0x6000 0,
      .sramWr 0x7FFF 0, .prgRd 0x8000, .prgRd 0xFFFF, .prgWr 0x8000 0, .prgWr 0xFFFF 0].all
      (fun i : Instr => i.wf) = true := by decide

/-- One address below and one above each range is refused. -/
theorem test_wf_refuses_ports :
    [.ppuctrl1Rd 0x1FFF, .ppuctrl1Rd 0x3FF9, .ppuctrl1Wr 0x1FFF 0, .ppuctrl1Wr 0x3FF9 0, .ppuctrl2Rd 0x2000,
      .ppuctrl2Rd 0x3FFA, .ppuctrl2Wr 0x2000 0, .ppuctrl2Wr 0x3FFA 0, .ppustatusRd 0x2001, .ppustatusRd 0x3FFB,
      .ppustatusWr 0x2001 0, .ppustatusWr 0x3FFB 0, .spraddrRd 0x2002, .spraddrRd 0x3FFC, .spraddrWr 0x2002 0,
      .spraddrWr 0x3FFC 0, .sprdataRd 0x2003, .sprdataRd 0x3FFD, .sprdataWr 0x2003 0, .sprdataWr 0x3FFD 0,
      .ppuscrollRd 0x2004, .ppuscrollRd 0x3FFE, .ppuscrollWr 0x2004 0, .ppuscrollWr 0x3FFE 0, .ppuaddrRd 0x2005,
      .ppuaddrRd 0x3FFF, .ppuaddrWr 0x2005 0, .ppuaddrWr 0x3FFF 0, .ppudataRd 0x2006, .ppudataRd 0x4000,
      .ppudataWr 0x2006 0, .ppudataWr 0x4000 0].all
      (fun i : Instr => !i.wf) = true := by decide

/-- One address below and one above each range is refused. -/
theorem test_wf_refuses_apu :
    [.apuRd4000 0x3FFF, .apuRd4000 0x4010, .apuRd4010 0x400F, .apuRd4010 0x4014, .apuWr4000 0x3FFF 0,
      .apuWr4000 0x4010 0, .apuWr4010 0x400F 0, .apuWr4010 0x4014 0].all
      (fun i : Instr => !i.wf) = true := by decide

/-- One address below and one above each range is refused. -/
theorem test_wf_refuses_unmapped :
    [.unmappedRd4018 0x4017, .unmappedRd4018 0x4020, .unmappedRd4020 0x401F, .unmappedRd4020 0x4040,
      .unmappedRd4040 0x403F, .unmappedRd4040 0x4080, .unmappedRd4080 0x407F, .unmappedRd4080 0x4100,
      .unmappedRd4100 0x40FF, .unmappedRd4100 0x4200, .unmappedRd4200 0x41FF, .unmappedRd4200 0x4400,
      .unmappedRd4400 0x43FF, .unmappedRd4400 0x4800, .unmappedRd4800 0x47FF, .unmappedRd4800 0x5000,
      .unmappedRd5000 0x4FFF, .unmappedRd5000 0x6000, .unmappedWr4018 0x4017 0, .unmappedWr4018 0x4020 0,
      .unmappedWr4020 0x401F 0, .unmappedWr4020 0x4040 0, .unmappedWr4040 0x403F 0, .unmappedWr4040 0x4080 0,
      .unmappedWr4080 0x407F 0, .unmappedWr4080 0x4100 0, .unmappedWr4100 0x40FF 0, .unmappedWr4100 0x4200 0,
      .unmappedWr4200 0x41FF 0, .unmappedWr4200 0x4400 0, .unmappedWr4400 0x43FF 0, .unmappedWr4400 0x4800 0,
      .unmappedWr4800 0x47FF 0, .unmappedWr4800 0x5000 0, .unmappedWr5000 0x4FFF 0, .unmappedWr5000 0x6000 0].all
      (fun i : Instr => !i.wf) = true := by decide


/-! Decoding: the word of every constructor, kind W[31:28], address W[23:8], data W[7:0] (R73). -/

theorem test_decode_ram_rom :
    decode 0x001FFF00 = .ok (.ramRd 0x1FFF)
      ∧ decode 0x10000081 = .ok (.ramWr 0x0000 0x81)
      ∧ decode 0x007FFF00 = .ok (.sramRd 0x7FFF)
      ∧ decode 0x10600011 = .ok (.sramWr 0x6000 0x11)
      ∧ decode 0x00FFFF00 = .ok (.prgRd 0xFFFF)
      ∧ decode 0x10800037 = .ok (.prgWr 0x8000 0x37) := by decide

theorem test_decode_ports :
    decode 0x003FF800 = .ok (.ppuctrl1Rd 0x3FF8)
      ∧ decode 0x102000A7 = .ok (.ppuctrl1Wr 0x2000 0xA7)
      ∧ decode 0x003FF900 = .ok (.ppuctrl2Rd 0x3FF9)
      ∧ decode 0x102001CD = .ok (.ppuctrl2Wr 0x2001 0xCD)
      ∧ decode 0x003FFA00 = .ok (.ppustatusRd 0x3FFA)
      ∧ decode 0x102002F3 = .ok (.ppustatusWr 0x2002 0xF3)
      ∧ decode 0x003FFB00 = .ok (.spraddrRd 0x3FFB)
      ∧ decode 0x10200319 = .ok (.spraddrWr 0x2003 0x19)
      ∧ decode 0x003FFC00 = .ok (.sprdataRd 0x3FFC)
      ∧ decode 0x1020043F = .ok (.sprdataWr 0x2004 0x3F)
      ∧ decode 0x003FFD00 = .ok (.ppuscrollRd 0x3FFD)
      ∧ decode 0x10200565 = .ok (.ppuscrollWr 0x2005 0x65)
      ∧ decode 0x003FFE00 = .ok (.ppuaddrRd 0x3FFE)
      ∧ decode 0x1020068B = .ok (.ppuaddrWr 0x2006 0x8B)
      ∧ decode 0x003FFF00 = .ok (.ppudataRd 0x3FFF)
      ∧ decode 0x102007B1 = .ok (.ppudataWr 0x2007 0xB1) := by decide

theorem test_decode_io :
    decode 0x00400F00 = .ok (.apuRd4000 0x400F)
      ∧ decode 0x00401000 = .ok (.apuRd4010 0x4010)
      ∧ decode 0x00401500 = .ok .apuRd4015
      ∧ decode 0x104000FD = .ok (.apuWr4000 0x4000 0xFD)
      ∧ decode 0x10401310 = .ok (.apuWr4010 0x4013 0x10)
      ∧ decode 0x10401523 = .ok (.apuWr4015 0x23)
      ∧ decode 0x10401736 = .ok (.apuWr4017 0x36)
      ∧ decode 0x00401400 = .ok .sprdmaRd
      ∧ decode 0x1040145C = .ok (.sprdmaWr 0x5C)
      ∧ decode 0x00401600 = .ok .joy1Rd
      ∧ decode 0x10401682 = .ok (.joy1Wr 0x82)
      ∧ decode 0x00401700 = .ok .joy2Rd := by decide

theorem test_decode_unmapped_reads :
    decode 0x00401F00 = .ok (.unmappedRd4018 0x401F)
      ∧ decode 0x00402000 = .ok (.unmappedRd4020 0x4020)
      ∧ decode 0x00407F00 = .ok (.unmappedRd4040 0x407F)
      ∧ decode 0x00408000 = .ok (.unmappedRd4080 0x4080)
      ∧ decode 0x0041FF00 = .ok (.unmappedRd4100 0x41FF)
      ∧ decode 0x00420000 = .ok (.unmappedRd4200 0x4200)
      ∧ decode 0x0047FF00 = .ok (.unmappedRd4400 0x47FF)
      ∧ decode 0x00480000 = .ok (.unmappedRd4800 0x4800)
      ∧ decode 0x005FFF00 = .ok (.unmappedRd5000 0x5FFF) := by decide

theorem test_decode_unmapped_writes :
    decode 0x10401853 = .ok (.unmappedWr4018 0x4018 0x53)
      ∧ decode 0x10403F66 = .ok (.unmappedWr4020 0x403F 0x66)
      ∧ decode 0x10404079 = .ok (.unmappedWr4040 0x4040 0x79)
      ∧ decode 0x1040FF8C = .ok (.unmappedWr4080 0x40FF 0x8C)
      ∧ decode 0x1041009F = .ok (.unmappedWr4100 0x4100 0x9F)
      ∧ decode 0x1043FFB2 = .ok (.unmappedWr4200 0x43FF 0xB2)
      ∧ decode 0x104400C5 = .ok (.unmappedWr4400 0x4400 0xC5)
      ∧ decode 0x104FFFD8 = .ok (.unmappedWr4800 0x4FFF 0xD8)
      ∧ decode 0x105000EB = .ok (.unmappedWr5000 0x5000 0xEB) := by decide

theorem test_decode_host :
    decode 0x2000FFFF = .ok (.tick 65535) ∧ decode 0x30001234 = .ok (.nmiAck 0x1234)
      ∧ decode 0x40000007 = .ok (.reset 7) ∧ decode 0x5000001C = .ok (.setButton 1 6 false)
      ∧ decode 0x50000007 = .ok (.setButton 0 3 true) ∧ decode 0x60000000 = .ok .create
      ∧ decode 0x70000000 = .ok .advanceFrame ∧ decode 0x8000001B = .ok (.paletteQuery .sprite 2 3)
      ∧ decode 0x80000004 = .ok (.paletteQuery .background 1 0) ∧ decode 0x90000000 = .ok .loadCart := by decide

/-- The ignored byte of a bus read may be anything (R73). -/
theorem test_decode_ignored_byte : decode 0x002002FF = .ok (.ppustatusRd 0x2002) := by decide

/-- Kinds 10 and 15, and a set bit at either end of each reserved field (R73, R82 (d)). -/
theorem test_decode_refuses :
    [0xA0000000, 0xF0000000].all (fun w => decide (decode w = .error .notAKind)) = true
      ∧ [0x01000000, 0x08000000, 0x11000000, 0x18000000, 0x20010000, 0x28000000, 0x30010000, 0x40010000, 0x48000000,
          0x50000020, 0x58000000, 0x80000020, 0x88000000, 0x60000001, 0x68000000, 0x70000001, 0x90000001].all
          (fun w => decide (decode w = .error .reservedBits)) = true := by decide

/-- Encoding, against words of spec/95's traces. -/
theorem test_encode :
    encode (.ppudataWr 0x2007 0xA1) = 0x102007A1 ∧ encode (.prgRd 0xFFFC) = 0x00FFFC00
      ∧ encode (.setButton 0 3 true) = 0x50000007 ∧ encode (.paletteQuery .sprite 2 0) = 0x80000018
      ∧ encode (.tick 60) = 0x2000003C ∧ encode .joy2Rd = 0x00401700 := by decide

/-! Steps. -/

/-- The next state of an operation, if it answers one. -/
def next (i : Instr) (s : State) : Option State :=
  match exec i s with
  | .next t => some t
  | .fault _ => none
  | .refused _ => none

/-- The newest answer of an operation. -/
def result (i : Instr) (s : State) : Option Output := (next i s).bind fun t => t.outputs.head?

/-- Why an operation is refused, if it is. -/
def refusal (o : Host.Outcome State Fault Refusal) : Option Refusal :=
  match o with
  | .next _ => none
  | .fault _ => none
  | .refused r => some r

/-- spec/95's timing tuple. -/
structure Tuple where
  scanline : Int
  dot : Nat
  cpuCycles : Nat
  vblank : Bool
  sprite0Hit : Bool
  nmiPending : Bool
  frameDone : Bool
  frameCount : Nat
  deriving DecidableEq, Repr

def tuple (s : State) : Tuple :=
  ⟨s.scanline, s.dot, s.cpuCycles, s.vblank, s.sprite0Hit, s.nmiPending, s.frameDone, s.frameCount⟩

/-- A fresh state at a scan position. -/
def at_ (line : Int) (dot : Nat) : State := { State.reset with scanline := line, dot := dot }

/-- spec/95's "fresh*" at a scan position: sprite 0 is at Y = 200. -/
def freshAt (line : Int) (dot : Nat) : State := { at_ line dot with spriteRam := [(0, 200)] }

/-- A fresh state at a VRAM address, with the step 1 or 32. -/
def atVram (a : VramAddr) (wide : Bool) : State :=
  { State.reset with vramAddr := a, ctrl1 := { State.reset.ctrl1 with vramIncSel := wide } }

/-- A fresh state whose write latch is set. -/
def latched : State := { State.reset with writeCount := true }

/-- A fresh state with a cartridge of `n` PRG banks. -/
def withBanks (n : Nat) (prg : Memory) : State :=
  { State.reset with cart := ⟨prg, n, [], [], .horizontal, true⟩ }

/-- A fresh state with controller 1's A and Start and controller 2's B pressed. -/
def pressed (st : Strobe) (c0 c1 : Fin 9) : State :=
  { State.reset with
    buttons := #v[#v[true, false, false, true, false, false, false, false],
      #v[false, true, false, false, false, false, false, false]]
    strobe := st, cursor := #v[c0, c1] }

/-- A block whose fault is set. -/
def faulted : State := { State.reset with fault := some ⟨.routingFault, 0x4014, .read⟩ }

/-- An image of `n` bytes with header bytes 4, 5, 6. -/
def image (n : Nat) (b4 b5 b6 : Byte) : Image :=
  ⟨n, [(4, b4), (5, b5), (6, b6)].filter (fun c => decide (c.2 ≠ 0))⟩

/-- A fresh state with one image handed over. -/
def handed (im : Image) : State := { State.reset with env := { Env.none with images := [im] } }

/-- B10: a write at $07FF shows at its mirror $1FFF. -/
theorem test_ram :
    ((next (.ramWr 0x07FF 0x11) State.reset).bind (result (.ramRd 0x1FFF))) = some (.byte 0x11) := by decide

/-- B9: save RAM. -/
theorem test_sram :
    ((next (.sramWr 0x7FFF 0x88) State.reset).bind (result (.sramRd 0x7FFF))) = some (.byte 0x88)
      ∧ ((next (.sramWr 0x6000 0x77) State.reset).bind (next (.reset 7))).map (fun t => t.sram) = some [(0, 0x77)] := by
  decide

/-- B7 and E7: one bank is mirrored, two are not. -/
theorem test_prgRd :
    result (.prgRd 0xFFFF) (withBanks 1 [(0x3FFF, 0x3E)]) = some (.byte 0x3E)
      ∧ result (.prgRd 0xC000) (withBanks 2 [(0x4000, 0xAB)]) = some (.byte 0xAB) := by decide

/-- B6: no cartridge. -/
theorem test_prgRd_no_cartridge :
    (next (.prgRd 0x8000) State.reset).map (fun t => t.fault) = some (some ⟨.noCartridge, 0x8000, .read⟩) := by decide

/-- B8. -/
theorem test_prgWr :
    (next (.prgWr 0x8000 0) (withBanks 1 [])).map (fun t => t.fault)
      = some (some ⟨.routingFault, 0x8000, .write⟩) := by decide

/-- B1, B2. -/
theorem test_apu :
    [.apuRd4000 0x4000, .apuRd4010 0x4013, .apuRd4015].all (fun i => decide (result i State.reset = some (.byte 0))) = true
      ∧ [.apuWr4000 0x4000 0xFF, .apuWr4010 0x4010 1, .apuWr4015 0x0F, .apuWr4017 0x40].all
          (fun i => decide (next i State.reset = some State.reset)) = true := by decide

/-- B3, B4, B5. -/
theorem test_unmapped :
    (next (.unmappedRd4018 0x4018) State.reset).map (fun t => t.fault) = some (some ⟨.routingFault, 0x4018, .read⟩)
      ∧ (next (.unmappedWr5000 0x5FFF 1) State.reset).map (fun t => t.fault) = some (some ⟨.routingFault, 0x5FFF, .write⟩)
      ∧ (next (.unmappedWr4020 0x4020 1) State.reset).map (fun t => t.fault)
          = some (some ⟨.routingFault, 0x4020, .write⟩) := by decide

/-- Q1, Q3. -/
theorem test_ppuctrl1Wr :
    (next (.ppuctrl1Wr 0x2000 0xFF) State.reset).map (fun t => t.ctrl1) = some ⟨true, true, true, true, true, 3⟩
      ∧ (next (.ppuctrl1Wr 0x2000 0x84) State.reset).map (fun t => t.ctrl1) = some ⟨true, false, false, false, true, 0⟩ := by
  decide

/-- Q5, Q7. -/
theorem test_ppuctrl2Wr :
    (next (.ppuctrl2Wr 0x2001 0x1E) State.reset).map (fun t => t.ctrl2) = some ⟨0, true, true, false, false, true⟩
      ∧ (next (.ppuctrl2Wr 0x2001 0xE1) State.reset).map (fun t => t.ctrl2) = some ⟨7, false, false, true, true, false⟩ := by
  decide

/-- Q9. -/
theorem test_ppustatusRd :
    (next (.ppustatusRd 0x2002) { latched with vblank := true, sprite0Hit := true }).map
      (fun t => (t.outputs, t.vblank, t.sprite0Hit, t.writeCount)) = some ([.byte 0xC0], false, false, false) := by decide

/-- Q11. -/
theorem test_ppustatusWr :
    (next (.ppustatusWr 0x3FFA 0) State.reset).map (fun t => t.fault) = some (some ⟨.routingFault, 0x3FFA, .write⟩) := by
  decide

/-- Q12, Q13. -/
theorem test_stubs :
    [.ppuctrl1Rd 0x2000, .ppuctrl2Rd 0x2001, .spraddrRd 0x2003, .sprdataRd 0x2004, .ppuscrollRd 0x2005, .ppuaddrRd 0x2006].all
        (fun i => decide (next i State.reset = some { State.reset with outputs := [.byte 0] })) = true
      ∧ [.spraddrWr 0x2003 0x10, .sprdataWr 0x2004 0xAA].all
        (fun i => decide (next i State.reset = some State.reset)) = true := by decide

/-- Q14. -/
theorem test_ppuscrollWr :
    ((next (.ppuscrollWr 0x2005 0x10) State.reset).bind (next (.ppuscrollWr 0x2005 0x20))).map
      (fun t => (t.scrollX, t.scrollY, t.writeCount)) = some (0x10, 0x20, false) := by decide

/-- E3, and the OR of Q15. -/
theorem test_ppuaddrWr :
    ((next (.ppuaddrWr 0x2006 0x23) State.reset).bind (next (.ppuaddrWr 0x2006 0x45))).map
        (fun t => (t.vramAddr, t.writeCount)) = some (0x2345, false)
      ∧ (next (.ppuaddrWr 0x2006 0x0F) { latched with vramAddr := 0x1234 }).map (fun t => t.vramAddr) = some 0x123F := by
  decide

/-- Q18, Q24. -/
theorem test_ppudataRd :
    (next (.ppudataRd 0x2007) latched).map (fun t => t.fault) = some (some ⟨.protocolFault, 0x2007, .read⟩)
      ∧ (next (.ppudataRd 0x2007) (atVram 0x2001 true)).map (fun t => (t.outputs, t.vramAddr))
          = some ([.byte 0], 0x2021) := by decide

/-- Q22, Q20. -/
theorem test_ppudataWr_palette :
    (next (.ppudataWr 0x2007 0x99) (atVram 0x3FF0 true)).map (fun t => (t.palette, t.vramAddr)) = some ([(0, 0x99)], 0x0010)
      ∧ (next (.ppudataWr 0x2007 0x99) (atVram 0x3FFF false)).map (fun t => (t.palette, t.vramAddr))
          = some ([(0x1F, 0x99)], 0x0000) := by decide

/-- Q17, Q19, Q23. -/
theorem test_ppudataWr :
    (next (.ppudataWr 0x2007 0x55) latched).map (fun t => t.fault) = some (some ⟨.protocolFault, 0x2007, .write⟩)
      ∧ (next (.ppudataWr 0x2007 0x55) (atVram 0x2100 false)).map (fun t => (t.nameAttr, t.vramAddr))
          = some ([(0x100, 0x55)], 0x2101)
      ∧ (next (.ppudataWr 0x2007 0x99) (atVram 0x1FFF false)).map (fun t => (t.nameAttr, t.vramAddr))
          = some ([], 0x2000) := by decide

/-- The nametable index table of spec/95. -/
theorem test_ntIndex :
    [0x2000, 0x2400, 0x2800, 0x2C00, 0x23C0, 0x2FFF, 0x3000, 0x3EFF].map (fun a => (ntIndex .horizontal a, ntIndex .vertical a))
      = [(0x000, 0x000), (0x000, 0x400), (0x400, 0x000), (0x400, 0x400), (0x3C0, 0x3C0), (0x7FF, 0x7FF), (0x000, 0x000),
        (0x6FF, 0x6FF)] := by decide

/-- The attribute block of slot 0 at 0x23C0, and the byte before it. -/
theorem test_attribute :
    ntIndex .vertical 0x23C0 = attrBase 0 ∧ isAttribute (ntIndex .vertical 0x23BF) = false
      ∧ ntIndex .horizontal 0x2BC0 = attrBase 1 := by decide

/-- The palette index list of spec/95. -/
theorem test_palIndex :
    [0x3F00, 0x3F04, 0x3F10, 0x3F14, 0x3F18, 0x3F1C, 0x3F11, 0x3F1F, 0x3F20, 0x3F30, 0x3FF0, 0x3FFF].map palIndex
      = [0x00, 0x04, 0x00, 0x04, 0x08, 0x0C, 0x11, 0x1F, 0x00, 0x00, 0x00, 0x1F] := by decide

/-- E5: from an odd total. -/
theorem test_sprdmaWr :
    (next (.sprdmaWr 0x02) { State.reset with ram := [(0x1FF, 9), (0x200, 1), (0x2FF, 254)], cpuCycles := 101 }).map
      (fun t => (t.spriteRam, t.cpuCycles, t.dot)) = some ([(0, 1), (255, 254)], 615, 1542) := by decide

/-- M1: from an even total, page bits above 2 ignored. -/
theorem test_sprdmaWr_even :
    (next (.sprdmaWr 0xFF) { freshAt 0 300 with ram := [(0x700, 200), (0x701, 254)], cpuCycles := 100 }).map
      (fun t => (t.spriteRam, t.cpuCycles, t.dot, t.scanline)) = some ([(0, 200), (1, 254)], 613, 1839, 0) := by decide

/-- M7. -/
theorem test_sprdmaRd :
    (next .sprdmaRd State.reset).map (fun t => t.fault) = some (some ⟨.routingFault, 0x4014, .read⟩) := by decide

/-- Steps 4, 7 and 8 of the controller sequence. -/
theorem test_joy1Rd :
    (next .joy1Rd (pressed .reset 0 0)).map (fun t => (t.outputs, t.cursor)) = some ([.byte 1], #v[0, 0])
      ∧ (next .joy1Rd (pressed .reading 3 0)).map (fun t => (t.outputs, t.cursor)) = some ([.byte 1], #v[4, 0]) := by decide

/-- Steps 1 and 6: Idle, and past the eighth button. -/
theorem test_joy2Rd :
    result .joy2Rd (pressed .idle 0 0) = some (.byte 0)
      ∧ (next .joy2Rd (pressed .reading 1 8)).map (fun t => (t.outputs, t.cursor)) = some ([.byte 1], #v[1, 8]) := by decide

/-- Steps 10 and 11. -/
theorem test_joy1Wr :
    next (.joy1Wr 0xFE) (pressed .reading 8 8) = some (pressed .reading 8 8)
      ∧ (next (.joy1Wr 0x03) (pressed .reading 8 8)).map (fun t => (t.strobe, t.cursor)) = some (.reset, #v[0, 0]) := by
  decide

/-- The `buttons[0][3] = 1` of P2. -/
theorem test_setButton :
    (next (.setButton 0 Button.start.index true) State.reset).map (fun t => t.buttons)
      = some #v[#v[false, false, false, true, false, false, false, false], Vector.replicate 8 false] := by decide

/-- T9 and T10. -/
theorem test_tick_wrap :
    (next (.tick 1) { freshAt 260 340 with vblank := true, sprite0Hit := true }).map tuple
        = some ⟨-1, 2, 1, false, false, false, false, 0⟩
      ∧ (next (.tick 1) (freshAt (-1) 340)).map tuple = some ⟨0, 2, 1, false, false, false, false, 0⟩ := by decide

/-- T11: 21 scanlines in one TICK. -/
theorem test_tick_long :
    (next (.tick 2400) { freshAt 240 0 with ctrl1 := ⟨true, false, false, false, false, 0⟩ }).map tuple
      = some ⟨-1, 39, 2400, false, false, true, true, 1⟩ := by decide

/-- S1, S2, S4, S5, S8, S9, S10, S11, S12. -/
theorem test_spriteZero :
    [(30, 100, 32, 99, 1), (30, 100, 32, 90, 6), (30, 100, 37, 104, 0), (30, 100, 38, 104, 0), (250, 0, 239, 338, 1),
      (0, 252, 0, 250, 1), (0, 252, 0, 253, 1), (232, 0, 239, 0, 0), (235, 0, 240, 0, 0)].map
        (fun (y, x, line, dot, n) =>
          (next (.tick n) { at_ line dot with spriteRam := [(0, y), (3, x)] }).map (fun t => t.sprite0Hit))
      = [some true, some false, some true, some false, some false, some true, some false, some true, some false] := by decide

/-- T6, and the refusal with no NMI pending (R181). -/
theorem test_nmiAck :
    (next (.nmiAck 7) { freshAt 241 1 with nmiPending := true, vblank := true }).map tuple
        = some ⟨241, 22, 7, true, false, false, false, 0⟩
      ∧ refusal (exec (.nmiAck 7) State.reset) = some .noNmiPending := by decide

/-- T16 and B11; T17. -/
theorem test_reset :
    (next (.reset 7) { State.reset with ram := [(0, 9)] }).map (fun t => (tuple t, t.ram))
        = some (⟨0, 21, 7, false, false, false, false, 0⟩, [])
      ∧ (next (.reset 2) State.reset).map tuple = some ⟨0, 6, 2, false, true, false, false, 0⟩ := by decide

/-- P4's last lines: a faulted block refuses all but CREATE, which gives a fresh state. -/
theorem test_create :
    refusal (exec (.reset 7) faulted) = some .faulted
      ∧ next .create faulted = some { State.reset with creations := 1 } := by decide

/-- A frame whose one step crosses into scanline 241 with the NMI enabled, in the manner of P3 (a)'s last step: step, TICK 4,
NMI entry of 7 cycles. -/
theorem test_advanceFrame :
    (next .advanceFrame { freshAt 240 333 with
        ctrl1 := ⟨true, false, false, false, false, 0⟩
        cpuCycles := 27391
        env := { Env.none with
          cpuSteps := [⟨[.read 0x2002], 4⟩], cpuNmis := [⟨[.write 0x01FD 0x80, .write 0x01FC 0x05], 7⟩] } }).map
      (fun t => (tuple t, t.ram)) = some (⟨241, 25, 27402, true, false, false, true, 1⟩, [(0x1FC, 0x05), (0x1FD, 0x80)]) := by
  decide

/-- L1, L2, L6, L8, L9, L11, L12, L13, L15 of the loader table, its answers. -/
theorem test_loadCheck :
    [image 15 0 0 0, image 16 1 1 0, image 24592 1 1 8, image 32784 1 2 0, image 8208 0 1 0, image 24592 1 1 4,
      image 24595 1 1 0, image 24591 1 1 0, image 24592 1 1 0xF2].map loadCheck
      = [.error .truncatedImage, .error .truncatedImage, .error (.unsupportedFeature .fourScreen),
        .error (.unsupportedFeature .multiBankChr), .error (.unsupportedFeature .noPrg), .error .truncatedImage, .ok true,
        .error .truncatedImage, .ok false] := by decide

/-- A failing LOAD_CART leaves the cartridge (L2, E8). -/
theorem test_loadCart_fails :
    (next .loadCart (handed (image 16 1 1 0))).map (fun t => (t.outputs, t.cart, t.fault))
      = some ([.load (.error .truncatedImage)], State.reset.cart, none) := by decide

/-- L5 and L10: mirroring, bank count, and the byte after the trainer. -/
theorem test_loadCart :
    (next .loadCart (handed ⟨25104, [(4, 1), (5, 1), (6, 5), (16, 7), (528, 0x2A)]⟩)).map
      (fun t => (t.outputs, t.cart.prgBanks, t.cart.mirroring, t.cart.prg))
      = some ([.load (.ok false)], 1, .vertical, [(0, 0x2A)]) := by decide

/-- The tile of spec/95's unpacking vector, row 2 of tile 5 of table 1. -/
theorem test_unpackTile :
    tilePixels [(0x1052, 0xB0), (0x105A, 0x61)] (256 + 5)
      = [(16720, 1), (16721, 2), (16722, 3), (16723, 1), (16727, 2)] := by decide

/-- The palette queries of spec/95. -/
theorem test_paletteQuery :
    [paletteQueryIndex .background 0 0, paletteQueryIndex .sprite 3 0, paletteQueryIndex .background 1 2,
      paletteQueryIndex .sprite 0 1, paletteQueryIndex .sprite 3 3] = [0, 0, 6, 17, 31]
      ∧ result (.paletteQuery .sprite 0 1) { State.reset with palette := [(17, 0x31)] } = some (.colour 0x31) := by decide

/-- A step takes the oldest issued word (R60): the first word of P1's trace, then nothing. -/
theorem test_step :
    step { State.reset with env := { Env.none with requests := [0x60000000, 0x00200200] } }
      = .next { State.reset with creations := 1, env := { Env.none with requests := [0x00200200] } } := rfl

/-- The end of a run (R183), and a word that is no operation (R82 (d)). -/
theorem test_step_stops :
    refusal (step State.reset) = some .noOperation
      ∧ refusal (step (State.reset.withFetchWord 32 0xA0000000)) = some (.notAnOperation .notAKind) := by decide

/-! Witnesses: for each obligation with hypotheses, a concrete state and operands that meet them, for each clause at a boundary
of its range. -/

/-- A state with the given words issued. -/
def issued (ws : List OpWord) : State := { State.reset with env := { Env.none with requests := ws } }

/-- O2, O3: a well-formed operation, and words of both sides of O3's case split. -/
theorem witness_encoding :
    (Instr.ramWr 0x1FFF 0xFF).wf = true ∧ decode (0x00FFFFFF : OpWord) = .ok (.prgRd 0xFFFF)
      ∧ (0x00FFFFFF : OpWord).toNat / 2 ^ 28 = 0 ∧ decode (0x10000000 : OpWord) = .ok (.ramWr 0 0)
      ∧ (0x10000000 : OpWord).toNat / 2 ^ 28 ≠ 0 := by decide

/-- O4. -/
theorem witness_ExactlyOneRowMatchesBusWord :
    (0x10FFFFFF : OpWord).toNat / 2 ^ 28 < 2 ∧ (0x10FFFFFF : OpWord).toNat / 2 ^ 24 % 16 = 0
      ∧ (Instr.prgWr 0xFFFF 0xFF).row.selects 0x10FFFFFF = true := by decide

/-- O5, each clause. -/
theorem witness_NonOperationsAreRefused :
    (issued [0xA0000000]).env.requests = [0xA0000000] ∧ 10 ≤ (0xA0000000 : OpWord).toNat / 2 ^ 28
      ∧ (0x1F000000 : OpWord).toNat / 2 ^ 28 < 2 ∧ (0x1F000000 : OpWord).toNat / 2 ^ 24 % 16 ≠ 0
      ∧ (0x40010000 : OpWord).toNat / 2 ^ 28 = 4 ∧ (0x40010000 : OpWord).toNat / 2 ^ 16 % 2 ^ 12 ≠ 0
      ∧ (0x80000020 : OpWord).toNat / 2 ^ 28 = 8 ∧ (0x80000020 : OpWord).toNat / 2 ^ 5 % 2 ^ 23 ≠ 0
      ∧ (0x90000001 : OpWord).toNat / 2 ^ 28 = 9 ∧ (0x90000001 : OpWord).toNat % 2 ^ 28 ≠ 0 := by decide

/-- O7. -/
theorem witness_StepRunsDecodedOperation :
    (issued [0x2000003C]).env.requests = [0x2000003C] ∧ decode 0x2000003C = .ok (.tick 60) := by decide

/-- O8. -/
theorem witness_FaultedBlockRefusesAllButCreate : faulted.fault ≠ none ∧ Instr.loadCart ≠ .create := by decide

/-- O9: a fault-free access and a faulting one of each kind, at the ends of the ranges. -/
theorem witness_FaultCausesAreComplete :
    State.reset.fault = none ∧ latched.fault = none
      ∧ busFault (.read 0x4018) State.reset ≠ none ∧ busFault (.read 0x5FFF) State.reset ≠ none
      ∧ busFault (.read 0x4017) State.reset = none ∧ busFault (.read 0x6000) State.reset = none
      ∧ busFault (.read 0x8000) State.reset = some ⟨.noCartridge, 0x8000, .read⟩
      ∧ busFault (.read 0xFFFF) (withBanks 1 []) = none
      ∧ busFault (.read 0x3FFF) latched = some ⟨.protocolFault, 0x3FFF, .read⟩
      ∧ busFault (.write 0x2007 0) State.reset = none
      ∧ busFault (.write 0x2002 0) State.reset = some ⟨.routingFault, 0x2002, .write⟩ := by decide

/-- O10, O11, O12: both ends of RAM, and no scripted reset entry. -/
theorem witness_ram :
    State.reset.fault = none ∧ (0x0000 : Addr).toNat < 0x2000 ∧ (0x1FFF : Addr).toNat < 0x2000
      ∧ (0x1FFF : Addr).toNat % 0x800 = (0x07FF : Addr).toNat % 0x800 ∧ State.reset.env.cpuResets = [] := by decide

/-- O13: both ends of save RAM, one byte written and one not. -/
theorem witness_SaveRamReadAndWrite :
    State.reset.fault = none ∧ 0x6000 ≤ (0x6000 : Addr).toNat ∧ (0x7FFF : Addr).toNat ≤ 0x7FFF
      ∧ Memory.listed [(0, 7)] ((0x6000 : Addr).toNat - 0x6000) = some 7
      ∧ Memory.listed [(0, 7)] ((0x7FFF : Addr).toNat - 0x6000) = none := by decide

/-- O14, O15: no cartridge, one bank, two banks. -/
theorem witness_prg :
    0x8000 ≤ (0x8000 : Addr).toNat ∧ 0x8000 ≤ (0xFFFF : Addr).toNat ∧ State.reset.fault = none
      ∧ State.reset.cart.loaded = false ∧ (withBanks 1 []).fault = none ∧ (withBanks 1 []).cart.loaded = true
      ∧ (withBanks 1 []).cart.prgBanks = 1 ∧ (withBanks 2 []).cart.loaded = true ∧ (withBanks 2 []).cart.prgBanks ≠ 1 := by
  decide

/-- O16: every row, and the ends of the address clauses. -/
theorem witness_ApuRegionIsIgnored :
    State.reset.fault = none
      ∧ Instr.apuRd4010 0x4013 ∈ [.apuRd4000 0x4013, .apuRd4010 0x4013, .apuRd4015]
      ∧ Instr.apuWr4017 1 ∈ [.apuWr4000 0x4017 1, .apuWr4010 0x4017 1, .apuWr4015 1, .apuWr4017 1]
      ∧ 0x4000 ≤ (0x4000 : Addr).toNat ∧ (0x4013 : Addr).toNat ≤ 0x4013 ∧ (0x4015 : Addr).toNat = 0x4015
      ∧ (0x4017 : Addr).toNat = 0x4017 := by decide

/-- O17: the ends of the range. -/
theorem witness_UnmappedAccessFaults :
    State.reset.fault = none ∧ 0x4018 ≤ (0x4018 : Addr).toNat ∧ (0x4018 : Addr).toNat ≤ 0x5FFF
      ∧ 0x4018 ≤ (0x5FFF : Addr).toNat ∧ (0x5FFF : Addr).toNat ≤ 0x5FFF
      ∧ decodeRead 0x4018 = .unmappedRd4018 0x4018 ∧ decodeWrite 0x5FFF 1 = .unmappedWr5000 0x5FFF 1 := by decide

/-- O18, O19: a member of each list. -/
theorem witness_stubs :
    State.reset.fault = none
      ∧ Instr.ppuaddrRd 0x3FFE ∈ [.ppuctrl1Rd 0x3FFE, .ppuctrl2Rd 0x3FFE, .spraddrRd 0x3FFE, .sprdataRd 0x3FFE,
        .ppuscrollRd 0x3FFE, .ppuaddrRd 0x3FFE]
      ∧ Instr.sprdataWr 0x2004 9 ∈ [.spraddrWr 0x2004 9, .sprdataWr 0x2004 9] := by decide

/-- O20 to O28: both states of the write latch, with no fault. -/
theorem witness_ports :
    State.reset.fault = none ∧ State.reset.writeCount = false ∧ latched.fault = none ∧ latched.writeCount = true := by
  decide

/-- O29: the ends of the three regions. -/
theorem witness_VramWriteStoresByRegion :
    latched.fault = none ∧ latched.writeCount = true ∧ (atVram 0x1FFF false).fault = none
      ∧ (atVram 0x1FFF false).writeCount = false ∧ (atVram 0x1FFF false).vramAddr.toNat < 0x2000
      ∧ 0x2000 ≤ (atVram 0x2000 true).vramAddr.toNat ∧ (atVram 0x3EFF true).vramAddr.toNat < 0x3F00
      ∧ 0x3F00 ≤ (atVram 0x3F00 true).vramAddr.toNat ∧ (atVram 0x3F00 true).writeCount = false := by decide

/-- O30: two slots with the same offset. -/
theorem witness_NametableIndexFollowsMirroring : (0x2FFF : VramAddr).toNat % 0x400 = (0x23FF : VramAddr).toNat % 0x400 := by
  decide

/-- O32, O33: both parities. -/
theorem witness_SpriteDma :
    State.reset.fault = none ∧ State.reset.cpuCycles % 2 = 0 ∧ { State.reset with cpuCycles := 1 }.cpuCycles % 2 = 1 := by
  decide

/-- O34: the three strobe states, the eighth button, and past it, on both controllers. -/
theorem witness_ControllerReadByStrobeState :
    (pressed .idle 0 0).fault = none ∧ (pressed .idle 0 0).strobe = .idle ∧ (pressed .reset 0 0).strobe = .reset
      ∧ (pressed .reading 7 0).strobe = .reading ∧ (pressed .reading 7 0).cursor[(0 : Fin 2)].val = (7 : Fin 8).val
      ∧ (pressed .reading 7 0).cursor[(1 : Fin 2)].val = (0 : Fin 8).val
      ∧ (pressed .reading 8 8).cursor[(0 : Fin 2)].val = 8 ∧ (pressed .reading 8 8).cursor[(1 : Fin 2)].val = 8
      ∧ Instr.joy1Rd = (if (0 : Fin 2) = 0 then .joy1Rd else .joy2Rd)
      ∧ Instr.joy2Rd = (if (1 : Fin 2) = 0 then .joy1Rd else .joy2Rd) := by decide

/-- O35: an odd and an even byte, in Reset and out of it. -/
theorem witness_StrobeWriteTransitions :
    (pressed .reset 0 0).fault = none ∧ (0xFF : Byte).toNat % 2 = 1 ∧ (0xFE : Byte).toNat % 2 = 0
      ∧ (pressed .reset 0 0).strobe = .reset ∧ (pressed .idle 0 0).strobe ≠ .reset := by decide

/-- O36, O37: a state that accepts operations; ten reads of $4016 after the strobe (E9). -/
theorem witness_SerialReadDeliversEightButtons :
    (pressed .idle 0 0).fault = none
      ∧ (performAccesses (.write 0x4016 1 :: .write 0x4016 0 :: List.replicate 10 (.read 0x4016)) (pressed .idle 0 0)).outputs
        = [.byte 1, .byte 1, .byte 0, .byte 0, .byte 0, .byte 0, .byte 1, .byte 0, .byte 0, .byte 1] := by decide

/-- O38 to O41, O43: both ends of the range of scanlines, and positions from which a TICK of 1 enters 241 and wraps. -/
theorem witness_time :
    (at_ (-1) 0).fault = none ∧ (at_ (-1) 0).scanlineInRange ∧ (at_ 260 340).fault = none ∧ (at_ 260 340).scanlineInRange
      ∧ (at_ 240 340).scanlineInRange ∧ (at_ 240 340).entriesInto241 (340 + 3 * 1) = 1
      ∧ (at_ 240 337).entriesInto241 (337 + 3 * 1) = 0 ∧ (at_ 260 340).wraps (340 + 3 * 1) = 1
      ∧ (at_ 260 337).wraps (337 + 3 * 1) = 0 := by
  refine ⟨rfl, ?_, rfl, ?_, ?_, by decide, by decide, by decide, by decide⟩ <;> exact ⟨by decide, by decide⟩

/-- The scripted call of O42: one access, and a cost. -/
def script (op : BusOp) (n : Nat) : List CpuCall := [⟨[op], n⟩]

/-- A state with a scripted CPU. -/
def scripted (s : State) (steps nmis : List CpuCall) : State :=
  { s with env := { Env.none with cpuSteps := steps, cpuNmis := nmis } }

/-- O42: no NMI pending; pending without a script; with one whose access does not fault, and one whose access does. -/
theorem witness_NmiAckTakesPendingNmi :
    State.reset.fault = none ∧ State.reset.nmiPending = false
      ∧ { State.reset with nmiPending := true }.nmiPending = true ∧ State.reset.env.cpuNmis = []
      ∧ (scripted { State.reset with nmiPending := true } [] (script (.write 0x01FD 0x80) 7)).nmiPending = true
      ∧ (performAccesses [.write 0x01FD 0x80] State.reset).fault = none
      ∧ (performAccesses [.read 0x4014] State.reset).fault ≠ none := by decide

/-- The state O44 speaks of after the scripted accesses, and after its TICK. -/
def afterAccesses (s : State) (c : CpuCall) (cs : List CpuCall) : State :=
  performAccesses c.accesses { s with frameDone := false, env := { s.env with cpuSteps := cs } }

/-- A position from which a TICK of 1 enters scanline 241, with `nmi_enabled` as given. -/
def beforeVblank (nmi : Bool) : State :=
  { freshAt 240 340 with ctrl1 := { State.reset.ctrl1 with nmiEnabled := nmi } }

/-- O44, each clause: a fault; the frame ends; it goes on; an NMI that ends the frame; an NMI before the end of the frame, which
goes on. -/
theorem witness_AdvanceFrameUnrolls :
    (afterAccesses State.reset ⟨[.read 0x4014], 1⟩ []).fault ≠ none
      ∧ (let v := tickCycles 1 (afterAccesses (beforeVblank false) ⟨[.read 0x0000], 1⟩ [])
         (afterAccesses (beforeVblank false) ⟨[.read 0x0000], 1⟩ []).fault = none
          ∧ v.nmiPending = false ∧ v.frameDone = true)
      ∧ (let v := tickCycles 1 (afterAccesses (freshAt 0 0) ⟨[.read 0x0000], 1⟩ [])
         v.nmiPending = false ∧ v.frameDone = false)
      ∧ (let v := tickCycles 1 (afterAccesses (scripted (beforeVblank true) [] [⟨[.read 0x0001], 7⟩]) ⟨[], 1⟩ [])
         v.nmiPending = true ∧ v.env.cpuNmis = [⟨[.read 0x0001], 7⟩]
          ∧ (cpuEntry [.read 0x0001] 7 v).frameDone = true ∧ (cpuEntry [.read 0x0001] 7 v).fault = none)
      ∧ (let v := tickCycles 1
          (afterAccesses (scripted { freshAt 0 0 with nmiPending := true } [] [⟨[.read 0x0001], 7⟩]) ⟨[], 1⟩ [])
         v.nmiPending = true ∧ v.env.cpuNmis = [⟨[.read 0x0001], 7⟩]
          ∧ (cpuEntry [.read 0x0001] 7 v).frameDone = false ∧ (cpuEntry [.read 0x0001] 7 v).fault = none) := by decide

/-- O46, O47: no scripted reset entry, and one; the largest cost of O47 and the two sides of its hit. -/
theorem witness_Reset :
    State.reset.fault = none ∧ State.reset.env.cpuResets = [] ∧ (113 : BitVec 16).toNat < 114
      ∧ (2 : BitVec 16).toNat ≤ 2 ∧ ¬ (3 : BitVec 16).toNat ≤ 2
      ∧ (performAccesses [.read 0x0000] State.reset).fault = none
      ∧ (performAccesses [.read 0xFFFC] State.reset).fault ≠ none := by decide

/-- O49: the smallest accepted image, and one with a trailing byte. -/
theorem witness_LoadCartCommitsImage :
    let im := image 24592 1 1 0
    (handed im).fault = none ∧ (handed im).env.images = [im] ∧ 16 ≤ im.length
      ∧ (Memory.get im.bytes 6).toNat / 8 % 2 = 0 ∧ (Memory.get im.bytes 5).toNat ≤ 1
      ∧ (Memory.get im.bytes 4).toNat ≠ 0
      ∧ 16 + (if (Memory.get im.bytes 6).toNat / 4 % 2 = 1 then 512 else 0) + (Memory.get im.bytes 4).toNat * 0x4000 + 0x2000
          = im.length := by decide

/-- O50: no image, and an image that fails each check at its boundary. -/
theorem witness_FailedLoadChangesNothing :
    State.reset.fault = none ∧ State.reset.env.images = [] ∧ (handed (image 15 0 0 0)).env.images = [image 15 0 0 0]
      ∧ (image 15 0 0 0).length < 16 ∧ 16 ≤ (image 16 1 1 8).length
      ∧ (Memory.get (image 16 1 1 8).bytes 6).toNat / 8 % 2 = 1 ∧ 1 < (Memory.get (image 16 1 2 0).bytes 5).toNat
      ∧ (Memory.get (image 16 0 1 0).bytes 4).toNat = 0
      ∧ (image 24591 1 1 0).length < 16 + (Memory.get (image 24591 1 1 0).bytes 4).toNat * 0x4000 + 0x2000 := by decide

/-- O51, O52: the last pixel of the last tile; colour 0 and another. -/
theorem witness_tiles_and_palette :
    1 < 2 ∧ 255 < 256 ∧ 7 < 8 ∧ State.reset.fault = none ∧ (0 : Fin 4).val = 0 ∧ (3 : Fin 4).val ≠ 0 := by decide

/-- O53: an access that is the $4014 write, its neighbours, and the read of the same address. -/
theorem witness_BusOperationsDoNotMoveTime :
    State.reset.fault = none ∧ BusOp.write 0x4014 2 = .write 0x4014 2 ∧ (∀ v, BusOp.write 0x4013 2 ≠ .write 0x4014 v)
      ∧ (∀ v, BusOp.write 0x4015 2 ≠ .write 0x4014 v) ∧ ∀ v, BusOp.read 0x4014 ≠ .write 0x4014 v :=
  ⟨rfl, rfl, fun _ h => absurd (BusOp.write.inj h).1 (by decide), fun _ h => absurd (BusOp.write.inj h).1 (by decide),
    fun _ h => by cases h⟩

/-- O54. -/
theorem witness_CartridgeChangesOnlyByLoad :
    Instr.prgRd 0x8000 ≠ .loadCart ∧ Instr.prgRd 0x8000 ≠ .create
      ∧ exec (.prgRd 0x8000) (withBanks 1 []) = .next { withBanks 1 [] with outputs := [.byte 0] } := by
  refine ⟨by decide, by decide, rfl⟩

/-- O56: a state with an issued word that meets the invariant and takes a step. -/
theorem witness_StepKeepsInvariant :
    (issued [0x60000000]).Inv ∧ step (issued [0x60000000]) = .next { State.reset with creations := 1 } :=
  ⟨⟨by decide, ⟨by decide, by decide⟩, rfl, ⟨rfl, rfl, rfl, rfl⟩, (by intro h; cases h), .inl rfl, fun _ => ⟨rfl, rfl⟩⟩, rfl⟩

/-- O57. -/
theorem witness_CanonicalMemoriesAreEqual :
    Memory.wf [(0, 1), (0x7FF, 2)] 0x800 = true ∧ ∀ a, Memory.get [(0, 1), (0x7FF, 2)] a = Memory.get [(0, 1), (0x7FF, 2)] a :=
  ⟨by decide, fun _ => rfl⟩

/-- O58: both ends of the window. -/
theorem witness_PortWindowDecodesByLowThreeBits :
    0x2000 ≤ (0x2000 : Addr).toNat ∧ (0x3FFF : Addr).toNat ≤ 0x3FFF ∧ decodeRead 0x2000 = .ppuctrl1Rd 0x2000
      ∧ decodeWrite 0x3FFF 1 = .ppudataWr 0x3FFF 1 := by decide

/-- O59: the two ends of an attribute block, and the tile index before it. -/
theorem witness_AttributeBlockClosesEachBank :
    0x00 < 0x40 ∧ (0x23C0 : VramAddr).toNat % 0x400 = 0x3C0 + 0x00 ∧ 0x3F < 0x40
      ∧ (0x2FFF : VramAddr).toNat % 0x400 = 0x3C0 + 0x3F ∧ ¬ 0x3C0 ≤ (0x23BF : VramAddr).toNat % 0x400 ∧ 0x7FF < 0x800 := by
  decide

/-- O60: a fresh state, and the first and the last button. -/
theorem witness_ButtonsAreReadInOrder :
    State.reset.fault = none ∧ (∀ j : Fin 8, State.reset.buttons[0][j] = false)
      ∧ Button.a.index = (0 : Fin 8) ∧ Button.right.index = (7 : Fin 8) := by decide

end Sys2Proof.Tests
end

