-- ==== Sys2Proof/Proofs/Scope.lean ====
section
/-! PROOF. The statements of spec/00 that tie an index of the model to the order R6 gives it: the attribute blocks (O59) and
the eight buttons (O60). -/

namespace Sys2Proof.Machine

/-! Nametable memory: an index keeps the address's offset into its slot. -/

/-- The bank is a multiple of the slot size, so it does not disturb the offset `a[9:0]` (R56). -/
theorem ntIndex_mod_slot (m : Mirroring) (a : VramAddr) : ntIndex m a % 0x400 = a.toNat % 0x400 := by
  rw [ntIndex_eq, Nat.mul_add_mod_self_right, Nat.mod_mod]

theorem isAttribute_ntIndex (m : Mirroring) (a : VramAddr) :
    isAttribute (ntIndex m a) = true ↔ 0x3C0 ≤ a.toNat % 0x400 := by
  rw [isAttribute_iff, ntIndex_mod_slot]

theorem ntIndex_of_offset {m : Mirroring} {a : VramAddr} {k : Nat} (h : a.toNat % 0x400 = 0x3C0 + k) :
    ntIndex m a = attrBase (ntBank m (ntSlot a)) + k := by
  rw [ntIndex_eq, h, attrBase_eq, Nat.add_assoc]
  rfl

/-- Below 0x800 there are two banks, so two blocks (R23). -/
theorem isAttribute_iff_block {i : Nat} (hi : i < 0x800) :
    isAttribute i = true
      ↔ (attrBase 0 ≤ i ∧ i < attrBase 0 + 0x40) ∨ (attrBase 1 ≤ i ∧ i < attrBase 1 + 0x40) := by
  rw [isAttribute_iff, attrBase_eq, attrBase_eq]
  omega

/-! The port of controller 1, and the serial read. -/

variable {s : State}

theorem performAccess_read_4016 (h : s.fault = none) : performAccess (.read 0x4016) s = ctrlRead 0 s :=
  performAccess_eq_exec (accept_of_ok h)

theorem performAccess_write_4016 (h : s.fault = none) (v : Byte) :
    performAccess (.write 0x4016 v) s = strobeWrite (v.getLsbD 0) s :=
  performAccess_eq_exec (accept_of_ok h)

/-- Writing 1 then 0 to $4016 enters Reading with both cursors at 0, from every strobe state (R152, D5, D8). -/
theorem performAccesses_strobe (h : s.fault = none) (ops : List BusOp) :
    performAccesses (.write 0x4016 1 :: .write 0x4016 0 :: ops) s
      = performAccesses ops { s with strobe := .reading, cursor := Vector.replicate 2 0 } := by
  have h1 : (strobeWrite ((1 : Byte).getLsbD 0) s).fault = none := h
  rw [performAccesses_cons h, performAccess_write_4016 h, performAccesses_cons h1, performAccess_write_4016 h1]
  rfl

/-- In Reading, before the eighth button, a read returns the button under the cursor and moves on (R150, D9). -/
theorem ctrlRead_of_reading (c : Fin 2) (hs : s.strobe = .reading) (hc : s.cursor[c].val < 8) :
    ctrlRead c s = returnByte (bitByte s.buttons[c][s.cursor[c].val])
      { s with cursor := s.cursor.set c ⟨s.cursor[c].val + 1, Nat.succ_lt_succ hc⟩ } := by
  simp only [ctrlRead, hs, hc, dif_pos]

theorem performAccesses_serialRead (h : s.fault = none) (hs : s.strobe = .reading) (hc : s.cursor[0].val < 8) (n : Nat) :
    performAccesses (List.replicate (n + 1) (.read 0x4016)) s
      = performAccesses (List.replicate n (.read 0x4016)) (returnByte (bitByte s.buttons[0][s.cursor[0].val])
          { s with cursor := s.cursor.set 0 ⟨s.cursor[0].val + 1, Nat.succ_lt_succ hc⟩ }) := by
  rw [List.replicate_succ, performAccesses_cons h, performAccess_read_4016 h]
  exact congrArg _ (ctrlRead_of_reading 0 hs hc)

/-- From Reading with the cursor `n` before button `k`, the last of `n + 1` reads returns that button. -/
theorem head?_outputs_serialReads (n : Nat) (k : Fin 8) (h : s.fault = none) (hs : s.strobe = .reading)
    (hk : s.cursor[0].val + n = k.val) :
    (performAccesses (List.replicate (n + 1) (.read 0x4016)) s).outputs.head? = some (.byte (bitByte s.buttons[0][k])) := by
  induction n generalizing s with
  | zero =>
    rw [performAccesses_serialRead h hs (by omega)]
    simp [← hk]
  | succ n ih =>
    have hnext : s.cursor[0].val + 1 + n = k.val := by omega
    rw [performAccesses_serialRead h hs (by omega)]
    exact ih h hs (by simpa using hnext)

/-- After the strobe, the last of `k + 1` reads returns button `k`. -/
theorem head?_outputs_strobe_serialReads (h : s.fault = none) (k : Fin 8) :
    (performAccesses (.write 0x4016 1 :: .write 0x4016 0 :: List.replicate (k.val + 1) (.read 0x4016)) s).outputs.head?
      = some (.byte (bitByte s.buttons[0][k])) := by
  rw [performAccesses_strobe h]
  exact head?_outputs_serialReads k.val k h rfl (Nat.zero_add _)

theorem Button.index_surjective : ∀ k : Fin 8, ∃ u : Button, u.index = k
  | 0 => ⟨.a, rfl⟩
  | 1 => ⟨.b, rfl⟩
  | 2 => ⟨.select, rfl⟩
  | 3 => ⟨.start, rfl⟩
  | 4 => ⟨.up, rfl⟩
  | 5 => ⟨.down, rfl⟩
  | 6 => ⟨.left, rfl⟩
  | 7 => ⟨.right, rfl⟩

/-- Pressing one button of a controller with none pressed leaves exactly that one pressed (R153). -/
theorem getElem_set_of_none_pressed {row : Vector Bool 8} (hrow : ∀ j : Fin 8, row[j] = false) (u k : Fin 8) :
    (row.set u.val true)[k.val] = decide (k = u) := by
  by_cases hku : k = u
  · subst hku
    simp
  · have hne : u.val ≠ k.val := fun e => hku (Fin.ext e.symm)
    simpa [Vector.getElem_set_ne, hne, hku] using hrow k

end Sys2Proof.Machine

open Sys2Proof.Machine

/-- Settles O59: the index keeps the offset into the slot, and the block is the last 0x40 offsets of each bank. -/
theorem attributeBlockClosesEachBank : Obligations.AttributeBlockClosesEachBank :=
  ⟨fun m a => ⟨isAttribute_ntIndex m a, fun _ _ h => ntIndex_of_offset h⟩, fun _ hi => isAttribute_iff_block hi⟩

/-- Settles O60: the strobe puts the cursor at 0, each read moves it on by one, and the last read returns button `k`, which is
pressed exactly if it is `u`. -/
theorem buttonsAreReadInOrder : Obligations.ButtonsAreReadInOrder := by
  refine ⟨Button.index_surjective, rfl, fun s u k h hbs => ⟨_, accept_of_ok h, ?_⟩⟩
  rw [head?_outputs_strobe_serialReads (by exact h)]
  simp [bitByte, getElem_set_of_none_pressed hbs]

end

section
/-! PROOF. The statements of spec/10 about the whole state: canonical memories are data (O57), the stuck state (O8), the reset
values (O48), who writes the cartridge (O54), and the invariant (O55, O56). -/

namespace Sys2Proof.Machine

/-! Canonical memories: what a read sees determines the list. -/

theorem Memory.mem_of_listed {m : Memory} {a : Nat} {v : Byte} (h : Memory.listed m a = some v) : (a, v) ∈ m := by
  induction m with
  | nil => cases h
  | cons c m ih =>
    unfold Memory.listed at h
    split at h
    · next hk =>
      cases h
      exact hk ▸ List.mem_cons_self ..
    · exact List.mem_cons_of_mem _ (ih h)

theorem Memory.listed_eq_none_of_rising {m : Memory} {lo size a : Nat} (h : Memory.rising m lo size = true) (ha : a < lo) :
    Memory.listed m a = none := by
  induction m generalizing lo with
  | nil => rfl
  | cons c m ih =>
    obtain ⟨hlo, -, hm⟩ := Memory.rising_cons.mp h
    have hne : c.1 ≠ a := by omega
    simp only [Memory.listed, hne, if_false]
    exact ih hm (by omega)

theorem Memory.listed_head (c : Host.Cell) (m : Memory) : Memory.listed (c :: m) c.1 = some c.2 := by
  simp [Memory.listed]

theorem Memory.listed_cons_of_ne {c : Host.Cell} {m : Memory} {a : Nat} (h : c.1 ≠ a) :
    Memory.listed (c :: m) a = Memory.listed m a := by
  simp [Memory.listed, h]

/-- The first cell of a list that agrees with a rising one lies no lower than that one's first cell. -/
theorem Memory.head_le_of_listed_eq {c d : Host.Cell} {m n : Memory} {lo size : Nat}
    (hn : Memory.rising (d :: n) lo size = true) (h : ∀ a, Memory.listed (c :: m) a = Memory.listed (d :: n) a) :
    d.1 ≤ c.1 := by
  by_contra hlt
  have hrise : Memory.rising (d :: n) d.1 size = true := Memory.rising_cons.mpr ⟨Nat.le_refl _, (Memory.rising_cons.mp hn).2⟩
  have hc := h c.1
  rw [Memory.listed_head, Memory.listed_eq_none_of_rising hrise (Nat.not_le.mp hlt)] at hc
  cases hc

/-- Rising lists that list the same bytes are equal. -/
theorem Memory.eq_of_listed_eq {m n : Memory} {lo size : Nat} (hm : Memory.rising m lo size = true)
    (hn : Memory.rising n lo size = true) (h : ∀ a, Memory.listed m a = Memory.listed n a) : m = n := by
  induction m generalizing n lo with
  | nil =>
    cases n with
    | nil => rfl
    | cons d n => exact nomatch (h d.1).trans (Memory.listed_head d n)
  | cons c m ih =>
    cases n with
    | nil => exact nomatch (h c.1).symm.trans (Memory.listed_head c m)
    | cons d n =>
      have hkey : c.1 = d.1 :=
        Nat.le_antisymm (Memory.head_le_of_listed_eq hm fun a => (h a).symm) (Memory.head_le_of_listed_eq hn h)
      have hbyte := h c.1
      rw [Memory.listed_head, hkey, Memory.listed_head] at hbyte
      obtain rfl : c = d := Prod.ext hkey (Option.some.inj hbyte)
      obtain ⟨-, -, hm⟩ := Memory.rising_cons.mp hm
      obtain ⟨-, -, hn⟩ := Memory.rising_cons.mp hn
      refine congrArg (c :: ·) (ih hm hn fun a => ?_)
      by_cases ha : c.1 = a
      · rw [Memory.listed_eq_none_of_rising hm (by omega), Memory.listed_eq_none_of_rising hn (by omega)]
      · rw [← Memory.listed_cons_of_ne ha, h a, Memory.listed_cons_of_ne ha]

theorem Memory.listed_ne_unlisted {m : Memory} {size : Nat} (h : Memory.wf m size = true) (a : Nat) :
    Memory.listed m a ≠ some Memory.unlisted :=
  fun hl => (Memory.wf_iff.mp h).2 _ (Memory.mem_of_listed hl) rfl

/-- A canonical memory lists exactly its non-zero bytes. -/
theorem Memory.listed_eq_some_iff {m : Memory} {size a : Nat} {v : Byte} (h : Memory.wf m size = true) :
    Memory.listed m a = some v ↔ v ≠ Memory.unlisted ∧ Memory.get m a = v := by
  have hne := Memory.listed_ne_unlisted h a
  unfold Memory.get
  cases hw : Memory.listed m a with
  | none => exact ⟨nofun, fun ⟨hv, hget⟩ => absurd hget.symm hv⟩
  | some w =>
    refine ⟨fun hv => ?_, fun ⟨_, hget⟩ => congrArg some hget⟩
    exact ⟨fun e => hne (hw.trans (e ▸ hv)), Option.some.inj hv⟩

theorem Memory.listed_eq_of_get_eq {m n : Memory} {size a : Nat} (hm : Memory.wf m size = true) (hn : Memory.wf n size = true)
    (h : Memory.get m a = Memory.get n a) : Memory.listed m a = Memory.listed n a :=
  Option.ext fun v => by rw [Memory.listed_eq_some_iff hm, Memory.listed_eq_some_iff hn, h]

/-! The stuck state. -/

theorem exec_of_faulted {i : Instr} {s : State} (h : s.fault ≠ none) (hc : i ≠ .create) : exec i s = .refused .faulted := by
  cases i with
  | create => exact absurd rfl hc
  | nmiAck m => exact (if_neg fun hn => h hn.1).trans (accept_of_faulted h)
  | advanceFrame => exact if_neg h
  | _ => exact accept_of_faulted h

theorem fault_eq_none_of_exec {i : Instr} {s t : State} (hc : i ≠ .create) (h : exec i s = .next t) : s.fault = none := by
  by_contra hf
  exact nomatch h.symm.trans (exec_of_faulted hf hc)

/-! What a bus operation leaves alone. -/

/-- The fields no bus operation touches, as one equation: the cartridge, the scan line and frame counter, the NMI and frame
signals, the buttons and the model's own inputs (R60). -/
def sameButBus (s t : State) : Prop :=
  t = { s with
    ram := t.ram, sram := t.sram, ctrl1 := t.ctrl1, ctrl2 := t.ctrl2, vblank := t.vblank, sprite0Hit := t.sprite0Hit
    spritesLost := t.spritesLost, writeCount := t.writeCount, scrollX := t.scrollX, scrollY := t.scrollY
    vramAddr := t.vramAddr, nameAttr := t.nameAttr, palette := t.palette, spriteRam := t.spriteRam, dot := t.dot
    cpuCycles := t.cpuCycles, strobe := t.strobe, cursor := t.cursor, fault := t.fault, outputs := t.outputs }

section
variable {s t : State}

/-- Everything a controller read can do (R150): it answers a byte, and moves the cursor of its own controller. -/
theorem ctrlRead_cases (c : Fin 2) (s : State) :
    (∃ v, ctrlRead c s = returnByte v s)
      ∨ (∃ v, s.strobe = .reset ∧ ctrlRead c s = returnByte v { s with cursor := s.cursor.set c 0 })
      ∨ ∃ v k, s.strobe = .reading ∧ ctrlRead c s = returnByte v { s with cursor := s.cursor.set c k } := by
  unfold ctrlRead
  split
  · exact .inl ⟨_, rfl⟩
  · next hs => exact .inr (.inl ⟨_, hs, rfl⟩)
  · next hs =>
    split
    · exact .inr (.inr ⟨_, _, hs, rfl⟩)
    · exact .inl ⟨_, rfl⟩

/-- Everything the strobe can do (R152). -/
theorem strobeWrite_cases (bit : Bool) (s : State) :
    strobeWrite bit s = s ∨ strobeWrite bit s = { s with strobe := .reset, cursor := Vector.replicate 2 0 }
      ∨ strobeWrite bit s = { s with strobe := .reading } := by
  unfold strobeWrite
  split
  · exact .inr (.inl rfl)
  · split
    · exact .inr (.inr rfl)
    · exact .inl rfl

/-- Everything a store at a PPU address can do (R55). -/
theorem vramStore_cases (a : VramAddr) (v : Byte) (s : State) :
    vramStore a v s = s ∨ vramStore a v s = { s with palette := Memory.set s.palette (palIndex a) v }
      ∨ vramStore a v s = { s with nameAttr := Memory.put s.nameAttr (ntIndex s.cart.mirroring a) v } := by
  unfold vramStore
  split
  · exact .inr (.inl rfl)
  · split
    · exact .inr (.inr rfl)
    · exact .inl rfl

theorem BusStep.sameButBus (h : BusStep s t) : sameButBus s t := by
  cases h with
  | vramStore v => rcases vramStore_cases s.vramAddr v s with e | e | e <;> rw [e] <;> rfl
  | ctrlRead c => rcases ctrlRead_cases c s with ⟨v, e⟩ | ⟨v, -, e⟩ | ⟨v, k, -, e⟩ <;> rw [e] <;> rfl
  | strobe bit => rcases strobeWrite_cases bit s with e | e | e <;> rw [e] <;> rfl
  | _ => rfl

theorem BusStep.cart (h : BusStep s t) : t.cart = s.cart := by
  rw [show t = _ from h.sameButBus]

theorem BusStep.env (h : BusStep s t) : t.env = s.env := by
  rw [show t = _ from h.sameButBus]

end

/-! Everything an operation can do, said once: all but CREATE and LOAD_CART. -/

/-- The next states of an operation other than CREATE and LOAD_CART. -/
inductive OpStep (s : State) : State → Prop where
  /-- A bus operation. -/
  | bus {t : State} (hf : s.fault = none) (hb : BusStep s t) : OpStep s t
  /-- TICK. -/
  | tick (n : Nat) : OpStep s (tickCycles n s)
  /-- NMI_ACK. -/
  | nmiAck (m : Nat) : OpStep s (takeNmi (nmiAccesses s).1 m (nmiAccesses s).2)
  /-- RESET. -/
  | reset (m : Nat) : OpStep s (cpuEntry (resetAccesses s).1 m (zeroVolatile (resetAccesses s).2))
  /-- SET_BUTTON. -/
  | buttons (b : Vector (Vector Bool 8) 2) : OpStep s { s with buttons := b }
  /-- PALETTE_QUERY. -/
  | answers (o : Output) : OpStep s (answer o s)
  /-- ADVANCE_FRAME. -/
  | frame {t : State} (n : Nat) (h : frameLoop n { s with frameDone := false } = .next t) : OpStep s t

section
variable {s t : State}

/-- An NMI_ACK that answers a next state has taken the NMI (R181). -/
theorem execNmiAck_next {m : BitVec 16} (h : execNmiAck m s = .next t) :
    t = takeNmi (nmiAccesses s).1 m.toNat (nmiAccesses s).2 := by
  unfold execNmiAck at h
  split at h
  · cases h
  · exact (accept_next.mp h).2.symm

/-- An ADVANCE_FRAME that answers a next state has run the frame loop (R182). -/
theorem execAdvanceFrame_next (h : execAdvanceFrame s = .next t) :
    frameLoop (s.env.cpuSteps.length + frameStepBound) { s with frameDone := false } = .next t := by
  unfold execAdvanceFrame at h
  split at h
  · exact h
  · cases h

theorem exec_opStep {i : Instr} (hl : i ≠ .loadCart) (hc : i ≠ .create) (h : exec i s = .next t) : OpStep s t := by
  cases hbus : isBusOperation i with
  | true =>
    have hf := fault_eq_none_of_exec hc h
    obtain ⟨u, hu, hb⟩ := execBus_step hf i
    rw [execBus_eq_exec i hbus, h] at hu
    cases hu
    exact .bus hf hb
  | false =>
    cases i with
    | create => exact absurd rfl hc
    | loadCart => exact absurd rfl hl
    | nmiAck m =>
      rw [execNmiAck_next h]
      exact .nmiAck _
    | advanceFrame => exact .frame _ (execAdvanceFrame_next h)
    | tick n =>
      obtain ⟨-, rfl⟩ := accept_next.mp h
      exact .tick _
    | reset m =>
      obtain ⟨-, rfl⟩ := accept_next.mp h
      exact .reset _
    | setButton c b pressed =>
      obtain ⟨-, rfl⟩ := accept_next.mp h
      exact .buttons _
    | paletteQuery area pal color =>
      obtain ⟨-, rfl⟩ := accept_next.mp h
      exact .answers _
    | _ => cases hbus

/-- A property that the frame driver keeps, and that does not look at the answers and the buttons or at what RESET zeroes. -/
structure KeptByOps (P : State → Prop) : Prop extends Kept P where
  zero : ∀ {s}, P s → P (zeroVolatile s)
  answers : ∀ {s} (o : Output), P s → P (answer o s)
  buttons : ∀ {s} (b : Vector (Vector Bool 8) 2), P s → P { s with buttons := b }

variable {P : State → Prop}

theorem Kept.nmiAccesses (k : Kept P) (h : P s) : P (nmiAccesses s).2 := by
  unfold Machine.nmiAccesses
  split
  · exact k.inputs _ s.nmiPending s.frameDone h
  · exact h

theorem Kept.resetAccesses (k : Kept P) (h : P s) : P (resetAccesses s).2 := by
  unfold Machine.resetAccesses
  split
  · exact k.inputs _ s.nmiPending s.frameDone h
  · exact h

/-- Every operation but CREATE and LOAD_CART keeps such a property, with any CPU behaviour inside it. -/
theorem KeptByOps.opStep (k : KeptByOps P) (hs : P s) (h : OpStep s t) : P t := by
  cases h with
  | bus hf hb => exact k.bus hf hs hb
  | tick n => exact k.tick n hs
  | nmiAck m => exact k.takeNmi _ m (k.nmiAccesses hs)
  | reset m => exact k.cpuEntry _ m (k.zero (k.resetAccesses hs))
  | buttons b => exact k.buttons b hs
  | answers o => exact k.answers o hs
  | frame n h => exact (k.frameLoop n (k.inputs s.env s.nmiPending false hs) h).1

/-! The cartridge. -/

theorem tickCycles_cart (n : Nat) (s : State) : (tickCycles n s).cart = s.cart := by
  rw [show tickCycles n s = _ from sameButTiming_tickCycles s n]

theorem keptByOps_cart (c : Cart) : KeptByOps fun s => s.cart = c where
  bus _ hp hb := hb.cart.trans hp
  tick n hp := (tickCycles_cart n _).trans hp
  inputs _ _ _ hp := hp
  zero hp := hp
  answers _ hp := hp
  buttons _ hp := hp

/-! The images handed over: only LOAD_CART takes one. -/

theorem performAccesses_env (ops : List BusOp) (s : State) : (performAccesses ops s).env = s.env :=
  performAccesses_keeps (P := fun t => t.env = s.env) (fun _ hp hb => hb.env.trans hp) ops rfl

theorem tickCycles_env (n : Nat) (s : State) : (tickCycles n s).env = s.env := by
  rw [show tickCycles n s = _ from sameButTiming_tickCycles s n]

theorem cpuEntry_env (ops : List BusOp) (m : Nat) (s : State) : (cpuEntry ops m s).env = s.env := by
  unfold cpuEntry
  simp only
  split
  · rw [tickCycles_env, performAccesses_env]
  · exact performAccesses_env ops s

theorem takeNmi_env (ops : List BusOp) (m : Nat) (s : State) : (takeNmi ops m s).env = s.env := cpuEntry_env ops m _

theorem callStep_images (s : State) : (callStep s).2.env.images = s.env.images := by
  unfold callStep
  split <;> rfl

theorem callNmi_images (s : State) : (callNmi s).2.env.images = s.env.images := by
  unfold callNmi
  split <;> rfl

theorem nmiAccesses_images (s : State) : (nmiAccesses s).2.env.images = s.env.images := by
  unfold nmiAccesses
  split <;> rfl

theorem resetAccesses_images (s : State) : (resetAccesses s).2.env.images = s.env.images := by
  unfold resetAccesses
  split <;> rfl

theorem serviceNmi_images (s : State) : (serviceNmi s).env.images = s.env.images := by
  unfold serviceNmi
  split
  · rw [takeNmi_env, callNmi_images]
  · rfl

theorem frameIteration_images (s : State) : (frameIteration s).env.images = s.env.images := by
  unfold frameIteration
  simp only
  split
  · rw [serviceNmi_images, tickCycles_env, performAccesses_env, callStep_images]
  · rw [performAccesses_env, callStep_images]

theorem frameLoop_images {n : Nat} (h : frameLoop n s = .next t) : t.env.images = s.env.images := by
  induction n generalizing s with
  | zero => cases h
  | succ n ih =>
    unfold frameLoop at h
    simp only at h
    split at h
    · exact (ih h).trans (frameIteration_images s)
    · cases h
      exact frameIteration_images s

theorem OpStep.images (h : OpStep s t) : t.env.images = s.env.images := by
  cases h with
  | bus _ hb => rw [hb.env]
  | tick n => rw [tickCycles_env]
  | nmiAck m => rw [takeNmi_env, nmiAccesses_images]
  | reset m => rw [cpuEntry_env, zeroVolatile_env, resetAccesses_images]
  | buttons | answers => rfl
  | frame n h => exact (frameLoop_images h).trans rfl

end

/-! The invariant, without the images the host hands over. -/

/-- The part of the invariant that speaks of the cartridge: canonical memories of the sizes it declares, and, once loaded, 1 to
255 banks and the unpacked tiles (R31, R64). -/
structure Cart.Inv (c : Cart) : Prop where
  prg : Memory.wf c.prg (c.prgBanks * prgBankSize) = true
  chr : Memory.wf c.chr chrBankSize = true
  tiles : Memory.wf c.tiles tileBufSize = true
  consistent : c.loaded = true → 1 ≤ c.prgBanks ∧ c.prgBanks ≤ 255 ∧ c.tiles = unpackTiles c.chr

/-- The invariant of the block itself: all of `State.Inv` but the images, which the frame driver's inputs may hold. -/
structure State.BlockInv (s : State) : Prop where
  ram : Memory.wf s.ram ramSize = true
  sram : Memory.wfOpen s.sram sramSize = true
  nameAttr : Memory.wfOpen s.nameAttr ntSize = true
  palette : Memory.wf s.palette paletteSize = true
  spriteRam : Memory.wf s.spriteRam spriteRamSize = true
  cart : s.cart.Inv
  scanline : s.scanlineInRange
  spritesLost : s.spritesLost = false
  paletteHoles : s.paletteHolesZero
  mask : s.maskConsistent
  cursor : s.cursorConsistent

theorem State.memoriesWf_iff {s : State} : s.memoriesWf = true ↔
    Memory.wf s.ram ramSize = true ∧ Memory.wfOpen s.sram sramSize = true
      ∧ Memory.wf s.cart.prg (s.cart.prgBanks * prgBankSize) = true ∧ Memory.wf s.cart.chr chrBankSize = true
      ∧ Memory.wf s.cart.tiles tileBufSize = true ∧ Memory.wfOpen s.nameAttr ntSize = true
      ∧ Memory.wf s.palette paletteSize = true ∧ Memory.wf s.spriteRam spriteRamSize = true
      ∧ s.env.images.all Image.wf = true := by
  simp only [State.memoriesWf, Bool.and_eq_true, and_assoc]

theorem State.inv_iff {s : State} : s.Inv ↔ s.BlockInv ∧ s.env.images.all Image.wf = true := by
  constructor
  · intro h
    obtain ⟨hram, hsram, hprg, hchr, htiles, hname, hpal, hspr, himages⟩ := State.memoriesWf_iff.mp h.memories
    have hcart : s.cart.Inv := ⟨hprg, hchr, htiles, h.cart⟩
    exact ⟨⟨hram, hsram, hname, hpal, hspr, hcart, h.scanline, h.spritesLost, h.paletteHoles, h.mask, h.cursor⟩, himages⟩
  · rintro ⟨h, himages⟩
    exact ⟨State.memoriesWf_iff.mpr ⟨h.ram, h.sram, h.cart.prg, h.cart.chr, h.cart.tiles, h.nameAttr, h.palette, h.spriteRam,
      himages⟩, h.scanline, h.spritesLost, h.paletteHoles, h.cart.consistent, h.mask, h.cursor⟩

/-! The parts of the invariant under the updates that touch them. -/

section
variable {s t : State}

theorem State.scanlineInRange_iff : s.scanlineInRange ↔ -1 ≤ s.scanline ∧ s.scanline ≤ 260 := Iff.rfl

/-- The fold sends no address to a sprite colour-0 entry (R57). -/
theorem palIndex_ne_hole (a : VramAddr) :
    0x10 ≠ palIndex a ∧ 0x14 ≠ palIndex a ∧ 0x18 ≠ palIndex a ∧ 0x1C ≠ palIndex a := by
  unfold palIndex
  simp only
  split <;> omega

theorem State.paletteHolesZero.store (h : s.paletteHolesZero) (a : VramAddr) (v : Byte) :
    State.paletteHolesZero { s with palette := Memory.set s.palette (palIndex a) v } := by
  obtain ⟨h0, h4, h8, hC⟩ := palIndex_ne_hole a
  simpa only [State.paletteHolesZero, Memory.get_set, h0, h4, h8, hC, if_false] using h

theorem maskConsistent_control2Of (v : Byte) : State.maskConsistent { s with ctrl2 := control2Of v } :=
  .inr (Bool.not_not _).symm

/-- The read in Reset sets a cursor to 0 (R150), which keeps both cursors 0. -/
theorem State.cursorConsistent.clear (h : s.cursorConsistent) (c : Fin 2) :
    State.cursorConsistent { s with cursor := s.cursor.set c 0 } := by
  intro hne
  obtain ⟨h0, h1⟩ := h hne
  simp [Vector.getElem_set, h0, h1]

theorem State.cursorConsistent.of_reading (hs : s.strobe = .reading) : s.cursorConsistent := fun hne => absurd hs hne

theorem cursorConsistent_zero (st : Strobe) :
    State.cursorConsistent { s with strobe := st, cursor := Vector.replicate 2 0 } := fun _ => ⟨rfl, rfl⟩

theorem State.BlockInv.vramStore (h : s.BlockInv) (a : VramAddr) (v : Byte) : (vramStore a v s).BlockInv := by
  rcases vramStore_cases a v s with e | e | e <;> rw [e]
  · exact h
  · exact { h with palette := Memory.wf_set v h.palette (palIndex_lt a), paletteHoles := h.paletteHoles.store a v }
  · exact { h with nameAttr := Memory.wfOpen_put v h.nameAttr (ntIndex_lt _ a) }

theorem State.BlockInv.ctrlRead (h : s.BlockInv) (c : Fin 2) : (ctrlRead c s).BlockInv := by
  rcases ctrlRead_cases c s with ⟨v, e⟩ | ⟨v, -, e⟩ | ⟨v, k, hs, e⟩ <;> rw [e]
  · exact { h with }
  · exact { h with cursor := h.cursor.clear c }
  · exact { h with cursor := .of_reading hs }

theorem State.BlockInv.strobeWrite (h : s.BlockInv) (bit : Bool) : (strobeWrite bit s).BlockInv := by
  rcases strobeWrite_cases bit s with e | e | e <;> rw [e]
  · exact h
  · exact { h with cursor := cursorConsistent_zero _ }
  · exact { h with cursor := .of_reading rfl }

/-- Every bus operation keeps the invariant of the block. -/
theorem State.BlockInv.busStep (h : s.BlockInv) (hb : BusStep s t) : t.BlockInv := by
  cases hb with
  | ram i v hi => exact { h with ram := Memory.wf_set v h.ram hi }
  | sram i v hi => exact { h with sram := Memory.wfOpen_put v h.sram hi }
  | control2 v => exact { h with mask := maskConsistent_control2Of v }
  | status => exact { h with spritesLost := rfl }
  | vramStore v => exact { h.vramStore s.vramAddr v with }
  | dma v => exact { h with spriteRam := Memory.wf_slice _ _ h.ram }
  | ctrlRead c => exact h.ctrlRead c
  | strobe bit => exact h.strobeWrite bit
  | _ => exact { h with }

theorem State.BlockInv.moveScan (h : s.BlockInv) (dot : Nat) {line : Int} (hlow : -1 ≤ line) (hhigh : line ≤ 260) :
    State.BlockInv { s with dot := dot, scanline := line } :=
  { h with scanline := State.scanlineInRange_iff.mpr ⟨hlow, hhigh⟩ }

/-- A pass of FOLD keeps the scan line in range, and sets no `sprites_lost` (R19, R26, R166). -/
theorem State.BlockInv.nextScanline (h : s.BlockInv) : (nextScanline s).BlockInv := by
  obtain ⟨hlow, hhigh⟩ := State.scanlineInRange_iff.mp h.scanline
  rcases nextScanline_cases s with ⟨-, e⟩ | ⟨-, e⟩ | ⟨-, hne, e⟩ <;> rw [e]
  · exact { h with scanline := State.scanlineInRange_iff.mpr (by simp) }
  · exact { h with scanline := State.scanlineInRange_iff.mpr (by simp), spritesLost := rfl }
  · exact h.moveScan _ (by omega) (by omega)

theorem State.BlockInv.tickCycles (h : s.BlockInv) (n : Nat) : (tickCycles n s).BlockInv :=
  tickCycles_keeps n (fun h => { h with }) (fun h _ => h.nextScanline)
    (fun h => by rw [spriteZeroTest_eq]; exact { h with }) h

/-- Zeroing gives every part it touches its reset value (R36). -/
theorem State.BlockInv.zeroVolatile (h : s.BlockInv) : (zeroVolatile s).BlockInv :=
  { h with
    ram := rfl, palette := rfl, spriteRam := rfl, scanline := State.scanlineInRange_iff.mpr (by simp), spritesLost := rfl
    paletteHoles := ⟨rfl, rfl, rfl, rfl⟩, mask := .inl rfl, cursor := fun _ => ⟨rfl, rfl⟩ }

theorem keptByOps_blockInv : KeptByOps State.BlockInv where
  bus _ h hb := h.busStep hb
  tick n h := h.tickCycles n
  inputs _ _ _ h := { h with }
  zero h := h.zeroVolatile
  answers _ h := { h with }
  buttons _ h := { h with }

/-! CREATE and LOAD_CART. -/

theorem Cart.inv_empty : Cart.Inv ⟨[], 0, [], [], .vertical, false⟩ := ⟨rfl, rfl, rfl, fun h => nomatch h⟩

/-- CREATE leaves a state that meets the invariant, whatever came before. -/
theorem createSystem_blockInv (s : State) : (createSystem s).BlockInv where
  ram := rfl
  sram := rfl
  nameAttr := rfl
  palette := rfl
  spriteRam := rfl
  cart := Cart.inv_empty
  scanline := State.scanlineInRange_iff.mpr (by simp)
  spritesLost := rfl
  paletteHoles := ⟨rfl, rfl, rfl, rfl⟩
  mask := .inl rfl
  cursor _ := ⟨rfl, rfl⟩

theorem cartOf_tiles (im : Image) : (cartOf im).tiles = unpackTiles (cartOf im).chr := by
  simp only [cartOf]

/-- The cartridge of an accepted canonical image is consistent (R31, R64, R191). -/
theorem cartOf_inv {im : Image} {w : Bool} (him : im.wf = true) (h : loadCheck im = .ok w) : (cartOf im).Inv := by
  obtain ⟨hlow, hhigh, -⟩ := loadCheck_ok h
  have htiles : Memory.wf (cartOf im).tiles tileBufSize = true := by
    rw [cartOf_tiles]
    exact unpackTiles_wf _
  exact ⟨Memory.wf_slice _ _ him, Memory.wf_slice _ _ him, htiles, fun _ => ⟨hlow, hhigh, cartOf_tiles im⟩⟩

theorem loadImage_env (im : Image) (s : State) : (loadImage im s).env = s.env := by
  rcases loadImage_cases im s with ⟨w, -, e⟩ | ⟨r, -, e⟩ <;> rw [e] <;> rfl

theorem State.BlockInv.loadImage (h : s.BlockInv) {im : Image} (him : im.wf = true) : (loadImage im s).BlockInv := by
  rcases loadImage_cases im s with ⟨w, hok, e⟩ | ⟨r, -, e⟩ <;> rw [e]
  · exact { h with cart := cartOf_inv him hok }
  · exact { h with }

theorem State.Inv.loadImage (h : s.Inv) {im : Image} (him : im.wf = true) : (loadImage im s).Inv := by
  obtain ⟨hb, himages⟩ := State.inv_iff.mp h
  exact State.inv_iff.mpr ⟨hb.loadImage him, by rwa [loadImage_env]⟩

theorem State.Inv.execLoadCart (h : s.Inv) (ht : execLoadCart s = .next t) : t.Inv := by
  have hf : s.fault = none := (accept_next.mp ht).1
  rcases execLoadCart_cases hf with ⟨-, e⟩ | ⟨im, ims, hq, e⟩
  · cases e.symm.trans ht
    exact h.loadImage rfl
  · cases e.symm.trans ht
    obtain ⟨hb, himages⟩ := State.inv_iff.mp h
    rw [hq, List.all_cons, Bool.and_eq_true] at himages
    obtain ⟨him, hims⟩ := himages
    have hs : State.Inv { s with env := { s.env with images := ims } } := State.inv_iff.mpr ⟨{ hb with }, hims⟩
    exact hs.loadImage him

/-! The step. -/

theorem State.Inv.exec (h : s.Inv) {i : Instr} (ht : exec i s = .next t) : t.Inv := by
  obtain ⟨hb, himages⟩ := State.inv_iff.mp h
  by_cases hl : i = .loadCart
  · subst hl
    exact h.execLoadCart ht
  by_cases hc : i = .create
  · subst hc
    cases ht
    exact State.inv_iff.mpr ⟨createSystem_blockInv s, himages⟩
  have hstep := exec_opStep hl hc ht
  exact State.inv_iff.mpr ⟨keptByOps_blockInv.opStep hb hstep, by rwa [hstep.images]⟩

/-- A step that answers a next state performed the operation of the oldest issued word (R60, R73). -/
theorem step_next (h : step s = .next t) :
    ∃ i ws, exec i { s with env := { s.env with requests := ws } } = .next t := by
  unfold step fetch at h
  split at h
  · cases h
  · next w u hq =>
    split at hq
    · cases hq
    · cases hq
      split at h
      · exact ⟨_, _, h⟩
      · cases h

end

end Sys2Proof.Machine

section
open Sys2Proof Sys2Proof.Machine

/-- Settles O56: taking a word off the queue and performing its operation each keep it. LOAD_CART commits a consistent
cartridge, CREATE starts afresh, and every other operation keeps the invariant of the block and the images handed over. -/
theorem stepKeepsInvariant : Obligations.StepKeepsInvariant := by
  intro s t h ht
  obtain ⟨i, ws, hexec⟩ := step_next ht
  exact State.Inv.exec (s := { s with env := { s.env with requests := ws } }) { h with } hexec

/-- Settles O54: every part of the frame driver keeps the cartridge. -/
theorem cartridgeChangesOnlyByLoad : Obligations.CartridgeChangesOnlyByLoad :=
  fun _ s _ hl hc ht => (keptByOps_cart s.cart).opStep rfl (exec_opStep hl hc ht)

/-- Settles O57: what a read sees fixes which bytes are listed, and those fix the rising list. -/
theorem canonicalMemoriesAreEqual : Obligations.CanonicalMemoriesAreEqual :=
  fun _ _ _ hm hn h => Memory.eq_of_listed_eq (Memory.wf_iff.mp hm).1 (Memory.wf_iff.mp hn).1
    fun a => Memory.listed_eq_of_get_eq hm hn (h a)

/-- Settles O8: all but CREATE go through `accept`, or ask for no fault before they start. -/
theorem faultedBlockRefusesAllButCreate : Obligations.FaultedBlockRefusesAllButCreate :=
  fun _ _ h hc => exec_of_faulted h hc

/-- Settles O48: the three memories are empty, and the other values are evaluated. -/
theorem resetStateValues : Obligations.ResetStateValues := by
  refine ⟨Memory.get_nil, Memory.get_nil, Memory.get_nil, ?_⟩
  decide

/-- Settles O55: at reset every memory is empty, no image is handed over, and the rest is as `createSystem` leaves it. -/
theorem invariantHoldsAtReset : Obligations.InvariantHoldsAtReset :=
  State.inv_iff.mpr ⟨{ createSystem_blockInv State.reset with }, rfl⟩

end
end

section
/-! PROOF. The statements of spec/20 and of the step: what an address decodes to (O6, O58), the RAM mirrors (O12), the nametable
and palette indices (O30, O31), what a bus operation leaves alone (O53), and the step itself (O7). -/

namespace Sys2Proof

/-! The bus decode. The word an operation encodes to carries the address it was decoded from, in either direction. -/

theorem Addr.inRange_iff {a : Addr} {lo hi : Nat} : a.inRange lo hi = true ↔ lo ≤ a.toNat ∧ a.toNat ≤ hi := by
  simp [Addr.inRange]

theorem Addr.isPort_iff {a : Addr} {p : Nat} :
    a.isPort p = true ↔ (0x2000 ≤ a.toNat ∧ a.toNat ≤ 0x3FFF) ∧ a.toNat % 8 = p := by
  simp [Addr.isPort, Addr.inRange_iff]

/-- `i` is an operation of the encoding (R72), and `w` is its word (R73). -/
def Instr.CarriedBy (i : Instr) (w : OpWord) : Prop := i.wf = true ∧ encode i = w

variable {a : Addr}

/-- The eight ports a read reaches, by the low three bits of the address (R45, R72). -/
theorem portRead_eq_getElem? (a : Addr) :
    some (portRead a) = [.ppuctrl1Rd a, .ppuctrl2Rd a, .ppustatusRd a, .spraddrRd a, .sprdataRd a, .ppuscrollRd a,
      .ppuaddrRd a, .ppudataRd a][a.toNat % 8]? := by
  have hp : a.toNat % 8 < 8 := Nat.mod_lt _ (by decide)
  unfold portRead
  generalize a.toNat % 8 = p at hp ⊢
  interval_cases p <;> rfl

/-- The eight ports a write reaches, by the low three bits of the address (R45, R72). -/
theorem portWrite_eq_getElem? (a : Addr) (v : Byte) :
    some (portWrite a v) = [.ppuctrl1Wr a v, .ppuctrl2Wr a v, .ppustatusWr a v, .spraddrWr a v, .sprdataWr a v,
      .ppuscrollWr a v, .ppuaddrWr a v, .ppudataWr a v][a.toNat % 8]? := by
  have hp : a.toNat % 8 < 8 := Nat.mod_lt _ (by decide)
  unfold portWrite
  generalize a.toNat % 8 = p at hp ⊢
  interval_cases p <;> rfl

theorem portRead_carriedBy (hlo : 0x2000 ≤ a.toNat) (hhi : a.toNat < 0x4000) :
    (portRead a).CarriedBy (busReadWord a) := by
  have hwindow : 0x2000 ≤ a.toNat ∧ a.toNat ≤ 0x3FFF := ⟨hlo, Nat.le_of_lt_succ hhi⟩
  have hp : a.toNat % 8 < 8 := Nat.mod_lt _ (by decide)
  unfold portRead
  generalize hport : a.toNat % 8 = p at hp ⊢
  interval_cases p
  all_goals exact ⟨Addr.isPort_iff.mpr ⟨hwindow, hport⟩, rfl⟩

theorem portWrite_carriedBy (hlo : 0x2000 ≤ a.toNat) (hhi : a.toNat < 0x4000) (v : Byte) :
    (portWrite a v).CarriedBy (busWriteWord a v) := by
  have hwindow : 0x2000 ≤ a.toNat ∧ a.toNat ≤ 0x3FFF := ⟨hlo, Nat.le_of_lt_succ hhi⟩
  have hp : a.toNat % 8 < 8 := Nat.mod_lt _ (by decide)
  unfold portWrite
  generalize hport : a.toNat % 8 = p at hp ⊢
  interval_cases p
  all_goals exact ⟨Addr.isPort_iff.mpr ⟨hwindow, hport⟩, rfl⟩

/-- An operation bound to the one address `b` carries any address equal to it. -/
theorem Instr.carriedBy_of_toNat_eq {i : Instr} {b : Addr} {word : Addr → OpWord} (hi : i.CarriedBy (word b))
    (h : a.toNat = b.toNat) : i.CarriedBy (word a) := BitVec.eq_of_toNat_eq h ▸ hi

theorem ioRead_carriedBy (hlo : 0x4000 ≤ a.toNat) (hhi : a.toNat < 0x4018) : (ioRead a).CarriedBy (busReadWord a) := by
  unfold ioRead
  repeat' split
  · exact ⟨Addr.inRange_iff.mpr ⟨hlo, by omega⟩, rfl⟩
  · exact ⟨Addr.inRange_iff.mpr ⟨by omega, by omega⟩, rfl⟩
  · exact Instr.carriedBy_of_toNat_eq (b := 0x4014) ⟨rfl, rfl⟩ (show a.toNat = 0x4014 by omega)
  · exact Instr.carriedBy_of_toNat_eq (b := 0x4015) ⟨rfl, rfl⟩ (show a.toNat = 0x4015 by omega)
  · exact Instr.carriedBy_of_toNat_eq (b := 0x4016) ⟨rfl, rfl⟩ (show a.toNat = 0x4016 by omega)
  · exact Instr.carriedBy_of_toNat_eq (b := 0x4017) ⟨rfl, rfl⟩ (show a.toNat = 0x4017 by omega)

theorem ioWrite_carriedBy (hlo : 0x4000 ≤ a.toNat) (hhi : a.toNat < 0x4018) (v : Byte) :
    (ioWrite a v).CarriedBy (busWriteWord a v) := by
  unfold ioWrite
  repeat' split
  · exact ⟨Addr.inRange_iff.mpr ⟨hlo, by omega⟩, rfl⟩
  · exact ⟨Addr.inRange_iff.mpr ⟨by omega, by omega⟩, rfl⟩
  · exact Instr.carriedBy_of_toNat_eq (b := 0x4014) (word := (busWriteWord · v)) ⟨rfl, rfl⟩ (show a.toNat = 0x4014 by omega)
  · exact Instr.carriedBy_of_toNat_eq (b := 0x4015) (word := (busWriteWord · v)) ⟨rfl, rfl⟩ (show a.toNat = 0x4015 by omega)
  · exact Instr.carriedBy_of_toNat_eq (b := 0x4016) (word := (busWriteWord · v)) ⟨rfl, rfl⟩ (show a.toNat = 0x4016 by omega)
  · exact Instr.carriedBy_of_toNat_eq (b := 0x4017) (word := (busWriteWord · v)) ⟨rfl, rfl⟩ (show a.toNat = 0x4017 by omega)

theorem unmappedRead_carriedBy (hlo : 0x4018 ≤ a.toNat) (hhi : a.toNat < 0x6000) :
    (unmappedRead a).CarriedBy (busReadWord a) := by
  unfold unmappedRead
  repeat' split
  all_goals exact ⟨Addr.inRange_iff.mpr ⟨by omega, by omega⟩, rfl⟩

theorem unmappedWrite_carriedBy (hlo : 0x4018 ≤ a.toNat) (hhi : a.toNat < 0x6000) (v : Byte) :
    (unmappedWrite a v).CarriedBy (busWriteWord a v) := by
  unfold unmappedWrite
  repeat' split
  all_goals exact ⟨Addr.inRange_iff.mpr ⟨by omega, by omega⟩, rfl⟩

/-- The operation a read performs is the one of the word that carries its address (R42, R72). -/
theorem decodeRead_carriedBy (a : Addr) : (decodeRead a).CarriedBy (busReadWord a) := by
  unfold decodeRead
  repeat' split
  · exact ⟨Addr.inRange_iff.mpr ⟨by omega, by omega⟩, rfl⟩
  · exact portRead_carriedBy (by omega) (by omega)
  · exact ioRead_carriedBy (by omega) (by omega)
  · exact unmappedRead_carriedBy (by omega) (by omega)
  · exact ⟨Addr.inRange_iff.mpr ⟨by omega, by omega⟩, rfl⟩
  · exact ⟨Addr.inRange_iff.mpr ⟨by omega, by omega⟩, rfl⟩

/-- The operation a write performs is the one of the word that carries its address and its byte (R42, R72). -/
theorem decodeWrite_carriedBy (a : Addr) (v : Byte) : (decodeWrite a v).CarriedBy (busWriteWord a v) := by
  unfold decodeWrite
  repeat' split
  · exact ⟨Addr.inRange_iff.mpr ⟨by omega, by omega⟩, rfl⟩
  · exact portWrite_carriedBy (by omega) (by omega) v
  · exact ioWrite_carriedBy (by omega) (by omega) v
  · exact unmappedWrite_carriedBy (by omega) (by omega) v
  · exact ⟨Addr.inRange_iff.mpr ⟨by omega, by omega⟩, rfl⟩
  · exact ⟨Addr.inRange_iff.mpr ⟨by omega, by omega⟩, rfl⟩

theorem decodeRead_of_ram (h : a.toNat < 0x2000) : decodeRead a = .ramRd a := if_pos h

theorem decodeWrite_of_ram (h : a.toNat < 0x2000) (v : Byte) : decodeWrite a v = .ramWr a v := if_pos h

theorem decodeRead_of_window (hlo : 0x2000 ≤ a.toNat) (hhi : a.toNat ≤ 0x3FFF) : decodeRead a = portRead a := by
  unfold decodeRead
  rw [if_neg (by omega), if_pos (by omega)]

theorem decodeWrite_of_window (hlo : 0x2000 ≤ a.toNat) (hhi : a.toNat ≤ 0x3FFF) (v : Byte) :
    decodeWrite a v = portWrite a v := by
  unfold decodeWrite
  rw [if_neg (by omega), if_pos (by omega)]

theorem busWriteWord_inj {a b : Addr} {v w : Byte} (h : busWriteWord a v = busWriteWord b w) : a = b ∧ v = w := by
  have haddr := congrArg (OpWord.field · 8 16) h
  have hdata := congrArg (OpWord.field · 0 8) h
  simp only [field_busWriteWord_addr, field_busWriteWord_data] at haddr hdata
  exact ⟨BitVec.eq_of_toNat_eq haddr, BitVec.eq_of_toNat_eq hdata⟩

theorem busReadWord_ne_busWriteWord (a b : Addr) (v : Byte) : busReadWord a ≠ busWriteWord b v := by
  intro h
  have hkind := congrArg (OpWord.field · 28 4) h
  simp [field_busReadWord_kind, field_busWriteWord_kind] at hkind

/-- Only the $4014 write decodes to SPRDMA_WR: its word would carry no other access. -/
theorem BusOp.eq_of_decode_eq_sprdmaWr {op : BusOp} {v : Byte} (h : op.decode = .sprdmaWr v) : op = .write 0x4014 v := by
  cases op with
  | read a =>
    have hword : encode (BusOp.read a).decode = busReadWord a := (decodeRead_carriedBy a).2
    rw [h] at hword
    exact absurd hword.symm (busReadWord_ne_busWriteWord a 0x4014 v)
  | write a w =>
    have hword : encode (BusOp.write a w).decode = busWriteWord a w := (decodeWrite_carriedBy a w).2
    rw [h] at hword
    obtain ⟨rfl, rfl⟩ := busWriteWord_inj hword
    rfl

end Sys2Proof

namespace Sys2Proof.Machine

/-! The nametable and palette indices. -/

/-- Addresses at one offset share an index exactly if their slots share a bank (R56). -/
theorem ntIndex_eq_iff_ntBank_eq (m : Mirroring) {a b : VramAddr} (h : b.toNat % 0x400 = a.toNat % 0x400) :
    ntIndex m a = ntIndex m b ↔ ntBank m (ntSlot a) = ntBank m (ntSlot b) := by
  change ntBank m (ntSlot a) * 0x400 + a.toNat % 0x400 = ntBank m (ntSlot b) * 0x400 + b.toNat % 0x400 ↔ _
  omega

theorem ntIndex_vertical (a : VramAddr) : ntIndex .vertical a = a.toNat % 0x800 := by
  rw [ntIndex_eq, ntBank]
  omega

theorem ntBank_horizontal_ntSlot (a : VramAddr) : ntBank .horizontal (ntSlot a) = ntSlot a / 2 :=
  Nat.mod_eq_of_lt (by unfold ntSlot; omega)

theorem ntIndex_horizontal (a : VramAddr) :
    ntIndex .horizontal a = a.toNat / 0x800 % 2 * 0x400 + a.toNat % 0x400 := by
  rw [ntIndex_eq, ntBank]
  omega

/-- The folded entries are the multiples of 4 in the sprite half (R57). -/
theorem palIndex_eq (a : VramAddr) :
    palIndex a = if 0x10 ≤ a.toNat % 0x20 ∧ a.toNat % 4 = 0 then a.toNat % 0x20 - 0x10 else a.toNat % 0x20 := by
  unfold palIndex
  refine if_congr ?_ rfl rfl
  omega

/-! The step. -/

variable {s t : State}

theorem fetch_cons {w : OpWord} {ws : List OpWord} (h : s.env.requests = w :: ws) :
    fetch s = some (w, { s with env := { s.env with requests := ws } }) := by
  simp only [fetch, h]

/-! What a bus operation leaves alone. -/

theorem isBusOperation_decode (op : BusOp) : isBusOperation op.decode = true := by
  cases op with
  | read a => exact decodeRead_isBusOperation a
  | write a v => exact decodeWrite_isBusOperation a v

/-- With no fault set, every access is performed, and its next state is one of `BusStep`'s (R60). -/
theorem exec_decode_busStep (h : s.fault = none) (op : BusOp) : ∃ t, exec op.decode s = .next t ∧ BusStep s t := by
  rw [← execBus_eq_exec _ (isBusOperation_decode op)]
  exact execBus_step h op.decode

/-- A bus operation sets no status flag: it keeps all three, or it is the status read, which clears them (R114). -/
theorem BusStep.flags (h : BusStep s t) :
    (t.vblank = true → s.vblank = true) ∧ (t.sprite0Hit = true → s.sprite0Hit = true)
      ∧ (t.spritesLost = true → s.spritesLost = true) := by
  cases h with
  | status => exact ⟨nofun, nofun, nofun⟩
  | vramStore v => rcases vramStore_cases s.vramAddr v s with e | e | e <;> rw [e] <;> exact ⟨id, id, id⟩
  | ctrlRead c => rcases ctrlRead_cases c s with ⟨v, e⟩ | ⟨v, -, e⟩ | ⟨v, k, -, e⟩ <;> rw [e] <;> exact ⟨id, id, id⟩
  | strobe bit => rcases strobeWrite_cases bit s with e | e | e <;> rw [e] <;> exact ⟨id, id, id⟩
  | _ => exact ⟨id, id, id⟩

/-- The dots and the cycles counted are the same in `t` as in `s` (R26, R27). -/
def sameClock (s t : State) : Prop := t.dot = s.dot ∧ t.cpuCycles = s.cpuCycles

theorem sameClock_ctrlRead (c : Fin 2) (s : State) : sameClock s (ctrlRead c s) := by
  rcases ctrlRead_cases c s with ⟨v, e⟩ | ⟨v, -, e⟩ | ⟨v, k, -, e⟩ <;> rw [e] <;> exact ⟨rfl, rfl⟩

theorem sameClock_strobeWrite (bit : Bool) (s : State) : sameClock s (strobeWrite bit s) := by
  rcases strobeWrite_cases bit s with e | e | e <;> rw [e] <;> exact ⟨rfl, rfl⟩

theorem sameClock_vramStore (a : VramAddr) (v : Byte) (s : State) : sameClock s (vramStore a v s) := by
  rcases vramStore_cases a v s with e | e | e <;> rw [e] <;> exact ⟨rfl, rfl⟩

/-- Of the bus operations only SPRDMA_WR charges cycles (R60, R143). -/
theorem execBus_sameClock {i : Instr} (hi : ∀ v, i ≠ .sprdmaWr v) (ht : execBus i s = .next t) : sameClock s t := by
  cases i with
  | sprdmaWr v => exact absurd rfl (hi v)
  | tick | nmiAck | reset | setButton | create | advanceFrame | paletteQuery | loadCart =>
    cases ht
    exact ⟨rfl, rfl⟩
  | prgRd | ppuscrollWr | ppuaddrWr =>
    obtain ⟨-, rfl⟩ := accept_next.mp ht
    split <;> exact ⟨rfl, rfl⟩
  | ppudataRd addr =>
    obtain ⟨-, rfl⟩ := accept_next.mp ht
    unfold vramRead
    repeat' split
    all_goals exact ⟨rfl, rfl⟩
  | ppudataWr addr data =>
    obtain ⟨-, rfl⟩ := accept_next.mp ht
    split
    · exact ⟨rfl, rfl⟩
    · exact sameClock_vramStore s.vramAddr data s
  | joy1Rd | joy2Rd =>
    obtain ⟨-, rfl⟩ := accept_next.mp ht
    exact sameClock_ctrlRead _ s
  | joy1Wr data =>
    obtain ⟨-, rfl⟩ := accept_next.mp ht
    exact sameClock_strobeWrite _ s
  | _ =>
    obtain ⟨-, rfl⟩ := accept_next.mp ht
    exact ⟨rfl, rfl⟩

/-- Only the $4014 write charges cycles (R60, R143). -/
theorem exec_decode_sameClock {op : BusOp} (hop : ∀ v, op ≠ .write 0x4014 v) (ht : exec op.decode s = .next t) :
    sameClock s t := by
  rw [← execBus_eq_exec _ (isBusOperation_decode op)] at ht
  exact execBus_sameClock (fun v h => hop v (BusOp.eq_of_decode_eq_sprdmaWr h)) ht

end Sys2Proof.Machine

section
open Sys2Proof Sys2Proof.Machine

/-- Settles O6, range by range of the map: the operation checks the range it was decoded for, and its word names the address. -/
theorem busDecodeIsTotal : Obligations.BusDecodeIsTotal := by
  intro a v
  obtain ⟨hrwf, hrword⟩ := decodeRead_carriedBy a
  obtain ⟨hwwf, hwword⟩ := decodeWrite_carriedBy a v
  exact ⟨hrwf, hrword, hwwf, hwword⟩

/-- Settles O12: both accesses go to `ram` at the address modulo 0x800, and the read sees the set. -/
theorem ramMirrorsAreCoherent : Obligations.RamMirrorsAreCoherent := by
  intro s a b v hf ha hb
  rw [decodeWrite_of_ram ha, decodeRead_of_ram hb]
  refine ⟨_, _, accept_of_ok hf, accept_of_ok hf, ?_⟩
  rw [returnByte_outputs, Memory.get_set, ramIndex_eq, ramIndex_eq]

/-- Settles O30: at equal offsets the indices differ exactly by the bank. -/
theorem nametableIndexFollowsMirroring : Obligations.NametableIndexFollowsMirroring := by
  refine fun a => ⟨ntIndex_vertical a, ntIndex_horizontal a, fun m => ntIndex_lt m a, fun b h => ⟨?_, ?_⟩⟩
  · exact ntIndex_eq_iff_ntBank_eq .vertical h
  · rw [ntIndex_eq_iff_ntBank_eq .horizontal h, ntBank_horizontal_ntSlot, ntBank_horizontal_ntSlot]

/-- Settles O53: what no bus operation touches stays by `BusStep.sameButBus`; only SPRDMA_WR charges cycles, and only the $4014
write decodes to it. -/
theorem busOperationsDoNotMoveTime : Obligations.BusOperationsDoNotMoveTime := by
  intro op s hf
  obtain ⟨t, ht, hb⟩ := exec_decode_busStep hf op
  obtain ⟨hvblank, hhit, hlost⟩ := hb.flags
  have hsame : t = _ := hb.sameButBus
  refine ⟨t, ht, ?_, ?_, ?_, ?_, ?_, hb.cart, hb.env, ?_, hvblank, hhit, hlost,
    fun hop => exec_decode_sameClock hop ht⟩
  all_goals rw [hsame]

/-- Settles O7: the queue gives its oldest word, which decodes to `i`. -/
theorem stepRunsDecodedOperation : Obligations.StepRunsDecodedOperation := by
  intro s w ws i hq hw
  simp only [step, fetch_cons hq, hw]

/-- Settles O31: the folded entries are the multiples of 4 in the sprite half, and the fold lands in the background half. -/
theorem paletteIndexFoldsColourZero : Obligations.PaletteIndexFoldsColourZero := by
  intro a
  obtain ⟨h0, h4, h8, hC⟩ := palIndex_ne_hole a
  exact ⟨palIndex_eq a, h0.symm, h4.symm, h8.symm, hC.symm, palIndex_lt a⟩

/-- Settles O58: in the window the decode is the port selection. -/
theorem portWindowDecodesByLowThreeBits : Obligations.PortWindowDecodesByLowThreeBits := by
  intro a v hlo hhi
  rw [decodeRead_of_window hlo hhi, decodeWrite_of_window hlo hhi]
  exact ⟨portRead_eq_getElem? a, portWrite_eq_getElem? a v⟩

end
end

section
/-! PROOF. The statements of spec/30: decode and encode agree (O2, O3), the opcode table's rows (O4), the words that are
no operations (O5), and the sample words (O1). -/

namespace Sys2Proof

open Machine (isBusOperation decodeRead_isBusOperation decodeWrite_isBusOperation)

variable {w : OpWord}

/-! The decoder, format by format (R73). -/

theorem field_kind_eq (w : OpWord) : OpWord.field w 28 4 = w.toNat / 2 ^ 28 := by
  unfold OpWord.field
  omega

theorem reservedZero_eq_ok {r : Nat} {i j : Instr} : reservedZero r i = .ok j ↔ r = 0 ∧ i = j := by
  unfold reservedZero
  split <;> simp [*]

theorem decode_of_kind_zero (hk : OpWord.field w 28 4 = 0) (hr : OpWord.field w 24 4 = 0) :
    decode w = .ok (decodeRead (BitVec.ofNat 16 (OpWord.field w 8 16))) := by
  simp only [decode, hk]
  exact if_pos hr

theorem decode_of_kind_one (hk : OpWord.field w 28 4 = 1) (hr : OpWord.field w 24 4 = 0) :
    decode w = .ok (decodeWrite (BitVec.ofNat 16 (OpWord.field w 8 16)) (BitVec.ofNat 8 (OpWord.field w 0 8))) := by
  simp only [decode, hk]
  exact if_pos hr

theorem decode_busReadWord (a : Addr) : decode (busReadWord a) = .ok (decodeRead a) := by
  rw [decode_of_kind_zero (field_busReadWord_kind a) (field_busReadWord_reserved a), field_busReadWord_addr,
    BitVec.ofNat_toNat, BitVec.setWidth_eq]

theorem decode_busWriteWord (a : Addr) (v : Byte) : decode (busWriteWord a v) = .ok (decodeWrite a v) := by
  rw [decode_of_kind_one (field_busWriteWord_kind a v) (field_busWriteWord_reserved a v), field_busWriteWord_addr,
    field_busWriteWord_data, BitVec.ofNat_toNat, BitVec.ofNat_toNat, BitVec.setWidth_eq, BitVec.setWidth_eq]

theorem decode_of_kind_ge_ten (hk : 10 ≤ OpWord.field w 28 4) : decode w = .error .notAKind := by
  unfold decode
  split
  case h_11 => rfl
  all_goals omega

/-- A word whose format's reserved field is not 0 is no operation (R73, R82 (d)). -/
theorem decode_of_reserved_ne_zero {kind lo len : Nat} (hk : OpWord.field w 28 4 = kind) (hkind : kind < 10)
    (hfield : reservedField kind = (lo, len)) (hr : OpWord.field w lo len ≠ 0) : decode w = .error .reservedBits := by
  simp only [decode, hk]
  interval_cases kind
  all_goals
    cases hfield
    exact if_neg hr

/-! A word is the one its fields build (R73): the encoder's formats, read back. -/

theorem toNat_busReadWord (a : Addr) : (busReadWord a).toNat = a.toNat * 2 ^ 8 := by
  simp only [busReadWord, BitVec.toNat_ofNat]
  omega

theorem toNat_busWriteWord (a : Addr) (v : Byte) : (busWriteWord a v).toNat = 2 ^ 28 + a.toNat * 2 ^ 8 + v.toNat := by
  simp only [busWriteWord, BitVec.toNat_ofNat]
  omega

theorem toNat_busReadWord_fields (hk : OpWord.field w 28 4 = 0) (hr : OpWord.field w 24 4 = 0) :
    (busReadWord (BitVec.ofNat 16 (OpWord.field w 8 16))).toNat = w.toNat / 256 * 256 := by
  simp only [toNat_busReadWord, OpWord.field, BitVec.toNat_ofNat] at *
  omega

theorem busWriteWord_fields (hk : OpWord.field w 28 4 = 1) (hr : OpWord.field w 24 4 = 0) :
    busWriteWord (BitVec.ofNat 16 (OpWord.field w 8 16)) (BitVec.ofNat 8 (OpWord.field w 0 8)) = w := by
  apply BitVec.eq_of_toNat_eq
  simp only [toNat_busWriteWord, OpWord.field, BitVec.toNat_ofNat] at *
  omega

theorem cyclesWord_fields {k : Nat} (hk : OpWord.field w 28 4 = k) (hr : OpWord.field w 16 12 = 0) :
    cyclesWord k (BitVec.ofNat 16 (OpWord.field w 0 16)) = w := by
  apply BitVec.eq_of_toNat_eq
  simp only [cyclesWord, OpWord.field, BitVec.toNat_ofNat] at *
  omega

/-- A word whose operand field is empty is its kind. -/
theorem eq_ofNat_kind {k : Nat} (hk : OpWord.field w 28 4 = k) (hr : OpWord.field w 0 28 = 0) :
    BitVec.ofNat 32 (k * 2 ^ 28) = w := by
  apply BitVec.eq_of_toNat_eq
  simp only [OpWord.field, BitVec.toNat_ofNat] at *
  omega

theorem encode_setButton_fields (hk : OpWord.field w 28 4 = 5) (hr : OpWord.field w 5 23 = 0) :
    encode (.setButton (Fin.ofNat 2 (OpWord.field w 4 1)) (Fin.ofNat 8 (OpWord.field w 1 3))
      (decide (OpWord.field w 0 1 = 1))) = w := by
  have hpressed : (decide (OpWord.field w 0 1 = 1)).toNat = w.toNat % 2 := by
    rcases Nat.mod_two_eq_zero_or_one w.toNat with h | h <;> simp [OpWord.field, h]
  apply BitVec.eq_of_toNat_eq
  simp only [encode, hpressed, OpWord.field, BitVec.toNat_ofNat, Fin.ofNat] at *
  omega

theorem encode_paletteQuery_fields (hk : OpWord.field w 28 4 = 8) (hr : OpWord.field w 5 23 = 0) :
    encode (.paletteQuery (if OpWord.field w 4 1 = 0 then .background else .sprite) (Fin.ofNat 4 (OpWord.field w 2 2))
      (Fin.ofNat 4 (OpWord.field w 0 2))) = w := by
  have harea : (if OpWord.field w 4 1 = 0 then PaletteArea.background else .sprite).code = OpWord.field w 4 1 := by
    have hbit : OpWord.field w 4 1 < 2 := Nat.mod_lt _ (by decide)
    split <;> simp only [PaletteArea.code] <;> omega
  apply BitVec.eq_of_toNat_eq
  simp only [encode, harea, OpWord.field, BitVec.toNat_ofNat, Fin.ofNat] at *
  omega

/-- What `decode` accepts is well-formed, and its word is the one decoded, but for the ignored byte of a bus read. -/
theorem wf_and_encode_of_decode_ok {i : Instr} (h : decode w = .ok i) :
    i.wf = true ∧ (OpWord.field w 28 4 = 0 → (encode i).toNat = w.toNat / 256 * 256)
      ∧ (OpWord.field w 28 4 ≠ 0 → encode i = w) := by
  unfold decode at h
  split at h
  case h_11 => cases h
  all_goals obtain ⟨hr, rfl⟩ := reservedZero_eq_ok.mp h
  case h_1 hk =>
    obtain ⟨hwf, hword⟩ := decodeRead_carriedBy (BitVec.ofNat 16 (OpWord.field w 8 16))
    exact ⟨hwf, fun _ => hword ▸ toNat_busReadWord_fields hk hr, absurd hk⟩
  case h_2 hk =>
    obtain ⟨hwf, hword⟩ :=
      decodeWrite_carriedBy (BitVec.ofNat 16 (OpWord.field w 8 16)) (BitVec.ofNat 8 (OpWord.field w 0 8))
    exact ⟨hwf, by omega, fun _ => hword.trans (busWriteWord_fields hk hr)⟩
  case h_3 hk | h_4 hk | h_5 hk => exact ⟨rfl, by omega, fun _ => cyclesWord_fields hk hr⟩
  case h_6 hk => exact ⟨rfl, by omega, fun _ => encode_setButton_fields hk hr⟩
  case h_7 hk | h_8 hk | h_10 hk => exact ⟨rfl, by omega, fun _ => eq_ofNat_kind hk hr⟩
  case h_9 hk => exact ⟨rfl, by omega, fun _ => encode_paletteQuery_fields hk hr⟩

/-! Encode, then decode: the range check of an operation is the one its address is decoded by (R72). -/

theorem decode_cyclesWord (n : BitVec 16) :
    decode (cyclesWord 2 n) = .ok (.tick n) ∧ decode (cyclesWord 3 n) = .ok (.nmiAck n)
      ∧ decode (cyclesWord 4 n) = .ok (.reset n) := by
  simp [decode, field_cyclesWord_kind, field_cyclesWord_reserved, field_cyclesWord_cycles, reservedZero]

theorem decode_encode_setButton : ∀ (c : Fin 2) (b : Fin 8) (s : Bool),
    decode (encode (.setButton c b s)) = .ok (.setButton c b s) := by
  decide

theorem decode_encode_paletteQuery (area : PaletteArea) :
    ∀ pal color : Fin 4, decode (encode (.paletteQuery area pal color)) = .ok (.paletteQuery area pal color) := by
  cases area <;> decide

/-- Every well-formed operation is the one its word decodes to. -/
theorem decode_encode {i : Instr} (h : i.wf = true) : decode (encode i) = .ok i := by
  cases i with
  | tick n | nmiAck n | reset n =>
    obtain ⟨htick, hack, hreset⟩ := decode_cyclesWord n
    assumption
  | setButton c b s => exact decode_encode_setButton c b s
  | paletteQuery area pal color => exact decode_encode_paletteQuery area pal color
  | create | advanceFrame | loadCart => rfl
  | apuRd4015 | sprdmaRd | joy1Rd | joy2Rd => exact decode_busReadWord _
  | apuWr4015 | apuWr4017 | sprdmaWr | joy1Wr => exact decode_busWriteWord _ _
  | ppuctrl1Rd | ppuctrl2Rd | ppustatusRd | spraddrRd | sprdataRd | ppuscrollRd | ppuaddrRd | ppudataRd =>
    obtain ⟨⟨hlo, hhi⟩, hport⟩ := Addr.isPort_iff.mp h
    rw [encode, decode_busReadWord, decodeRead_of_window hlo hhi]
    simp only [portRead, hport]
  | ppuctrl1Wr | ppuctrl2Wr | ppustatusWr | spraddrWr | sprdataWr | ppuscrollWr | ppuaddrWr | ppudataWr =>
    obtain ⟨⟨hlo, hhi⟩, hport⟩ := Addr.isPort_iff.mp h
    rw [encode, decode_busWriteWord, decodeWrite_of_window hlo hhi]
    simp only [portWrite, hport]
  | ramRd | apuRd4000 | apuRd4010 | unmappedRd4018 | unmappedRd4020 | unmappedRd4040 | unmappedRd4080 | unmappedRd4100
  | unmappedRd4200 | unmappedRd4400 | unmappedRd4800 | unmappedRd5000 | sramRd | prgRd =>
    obtain ⟨hlo, hhi⟩ := Addr.inRange_iff.mp h
    rw [encode, decode_busReadWord]
    simp (disch := omega) only [decodeRead, ioRead, unmappedRead, if_pos, if_neg]
  | ramWr | apuWr4000 | apuWr4010 | unmappedWr4018 | unmappedWr4020 | unmappedWr4040 | unmappedWr4080 | unmappedWr4100
  | unmappedWr4200 | unmappedWr4400 | unmappedWr4800 | unmappedWr5000 | sramWr | prgWr =>
    obtain ⟨hlo, hhi⟩ := Addr.inRange_iff.mp h
    rw [encode, decode_busWriteWord]
    simp (disch := omega) only [decodeWrite, ioWrite, unmappedWrite, if_pos, if_neg]

/-! The rows of the opcode table (R74). -/

/-- Two rows that select one word agree on every bit that both fix. -/
theorem TableRow.pattern_and_mask_eq {r q : TableRow} (hr : r.selects w = true) (hq : q.selects w = true) :
    r.pattern &&& q.mask = q.pattern &&& r.mask := by
  simp only [TableRow.selects, beq_iff_eq] at hr hq
  rw [← hr, ← hq, BitVec.and_assoc, BitVec.and_assoc, BitVec.and_comm r.mask]

/-- The rows of the opcode table. -/
def tableRows : List TableRow :=
  [.ramRd 0, .ramWr 0 0, .ppuctrl1Rd 0, .ppuctrl1Wr 0 0, .ppuctrl2Rd 0, .ppuctrl2Wr 0 0, .ppustatusRd 0,
    .ppustatusWr 0 0, .spraddrRd 0, .spraddrWr 0 0, .sprdataRd 0, .sprdataWr 0 0, .ppuscrollRd 0, .ppuscrollWr 0 0,
    .ppuaddrRd 0, .ppuaddrWr 0 0, .ppudataRd 0, .ppudataWr 0 0, .apuRd4000 0, .apuRd4010 0, .apuRd4015,
    .apuWr4000 0 0, .apuWr4010 0 0, .apuWr4015 0, .apuWr4017 0, .sprdmaRd, .sprdmaWr 0, .joy1Rd, .joy1Wr 0, .joy2Rd,
    .unmappedRd4018 0, .unmappedRd4020 0, .unmappedRd4040 0, .unmappedRd4080 0, .unmappedRd4100 0, .unmappedRd4200 0,
    .unmappedRd4400 0, .unmappedRd4800 0, .unmappedRd5000 0, .unmappedWr4018 0 0, .unmappedWr4020 0 0,
    .unmappedWr4040 0 0, .unmappedWr4080 0 0, .unmappedWr4100 0 0, .unmappedWr4200 0 0, .unmappedWr4400 0 0,
    .unmappedWr4800 0 0, .unmappedWr5000 0 0, .sramRd 0, .sramWr 0 0, .prgRd 0, .prgWr 0 0, .tick 0, .nmiAck 0,
    .reset 0, .setButton 0 0 false, .create, .advanceFrame, .paletteQuery .background 0 0, .loadCart].map Instr.row

theorem getElem?_tableRows (i : Instr) : tableRows[i.ctorIdx]? = some i.row := by
  cases i <;> rfl

/-- Some bit that both fix tells any two rows of the table apart. -/
theorem tableRows_pairwise : tableRows.Pairwise fun r q => r.pattern &&& q.mask ≠ q.pattern &&& r.mask := by
  decide

/-- No word selects two rows (R74). -/
theorem row_eq_of_selects {i j : Instr} (hi : i.row.selects w = true) (hj : j.row.selects w = true) :
    j.row = i.row := by
  have hsymm : Std.Symm fun r q : TableRow => r.pattern &&& q.mask ≠ q.pattern &&& r.mask := ⟨fun _ _ => Ne.symm⟩
  by_contra hne
  exact tableRows_pairwise.forall (List.mem_of_getElem? (getElem?_tableRows j))
    (List.mem_of_getElem? (getElem?_tableRows i)) hne (TableRow.pattern_and_mask_eq hj hi)

/-! A bus operation's row selects the words that carry it: it fixes the bits that the addresses of its range share. -/

theorem toNat_busReadWord_div (a : Addr) : (busReadWord a).toNat / 2 ^ 8 = a.toNat := by
  rw [toNat_busReadWord]
  omega

theorem toNat_busWriteWord_div (a : Addr) (v : Byte) : (busWriteWord a v).toNat / 2 ^ 8 = 2 ^ 20 + a.toNat := by
  rw [toNat_busWriteWord]
  omega

/-- A mask of the `len` bits from bit `lo` up leaves that field of the word. -/
theorem toNat_and_mask {mask : OpWord} {lo len : Nat} (hm : mask.toNat = (2 ^ len - 1) * 2 ^ lo) :
    (w &&& mask).toNat = OpWord.field w lo len * 2 ^ lo := by
  rw [BitVec.toNat_and, hm, OpWord.field, ← Nat.and_two_pow_sub_one_eq_mod, ← Nat.shiftRight_eq_div_pow,
    ← Nat.shiftLeft_eq, ← Nat.shiftLeft_eq]
  apply Nat.eq_of_testBit_eq
  intro k
  by_cases hk : lo ≤ k <;> simp [hk, Bool.and_comm]

/-- A mask of the bits from bit `k` up clears the bits below. -/
theorem toNat_and_highMask {mask : OpWord} {k : Nat} (hm : mask.toNat = (2 ^ (32 - k) - 1) * 2 ^ k) :
    (w &&& mask).toNat = 2 ^ k * (w.toNat / 2 ^ k) := by
  have hfit : w.toNat / 2 ^ k < 2 ^ (32 - k) := by
    rw [Nat.div_lt_iff_lt_mul (by positivity), ← Nat.pow_add]
    exact w.isLt.trans_le (Nat.pow_le_pow_right (by decide) (by omega))
  rw [toNat_and_mask hm, OpWord.field, Nat.mod_eq_of_lt hfit, Nat.mul_comm]

/-- A row that fixes the bits from bit `k` up selects the words that have its pattern there. -/
theorem TableRow.selects_of_highBits {p m : OpWord} (k : Nat) (hm : m.toNat = (2 ^ (32 - k) - 1) * 2 ^ k)
    (hw : 2 ^ k * (w.toNat / 2 ^ k) = p.toNat) : TableRow.selects ⟨p, m⟩ w = true := by
  rw [selects, beq_iff_eq, ← BitVec.toNat_inj, toNat_and_highMask hm, hw]

/-- A port's row fixes the bits from bit 21 up and the low three bits of the address (R45). -/
theorem TableRow.selects_of_port {p : OpWord}
    (hw : 2 ^ 21 * (w.toNat / 2 ^ 21) + OpWord.field w 8 3 * 2 ^ 8 = p.toNat) :
    TableRow.selects ⟨p, 0xFFE00700⟩ w = true := by
  have hmask : (0xFFE00700 : OpWord) = 0xFFE00000 ||| 0x700 := rfl
  have hport : OpWord.field w 8 3 < 2 ^ 3 := Nat.mod_lt _ (by decide)
  rw [selects, beq_iff_eq, ← BitVec.toNat_inj, hmask, BitVec.and_or_distrib_left, BitVec.toNat_or,
    toNat_and_highMask (k := 21) rfl, toNat_and_mask (lo := 8) (len := 3) rfl, ← Nat.two_pow_add_eq_or_of_lt, hw]
  omega

open TableRow (selects_of_highBits selects_of_port)

/-- The row of a well-formed bus operation selects every word that carries it, whatever its low byte (R73, R74). -/
theorem row_selects_of_wf {i : Instr} (hbus : isBusOperation i = true) (h : i.wf = true)
    (hw : w.toNat / 2 ^ 8 = (encode i).toNat / 2 ^ 8) : i.row.selects w = true := by
  cases i
  case tick | nmiAck | reset | setButton | create | advanceFrame | paletteQuery | loadCart => cases hbus
  all_goals simp only [encode, toNat_busReadWord_div, toNat_busWriteWord_div] at hw
  case sprdmaRd | apuRd4015 | joy1Rd | joy2Rd | sprdmaWr | apuWr4015 | joy1Wr | apuWr4017 =>
    exact selects_of_highBits 8 rfl (congrArg (2 ^ 8 * ·) hw)
  case ppuctrl1Rd | ppuctrl2Rd | ppustatusRd | spraddrRd | sprdataRd | ppuscrollRd | ppuaddrRd | ppudataRd
      | ppuctrl1Wr | ppuctrl2Wr | ppustatusWr | spraddrWr | sprdataWr | ppuscrollWr | ppuaddrWr | ppudataWr =>
    obtain ⟨⟨hlo, hhi⟩, hport⟩ := Addr.isPort_iff.mp h
    exact selects_of_port (by simp only [OpWord.field, BitVec.reduceToNat]; omega)
  all_goals obtain ⟨hlo, hhi⟩ := Addr.inRange_iff.mp h
  case apuRd4010 | apuWr4010 => exact selects_of_highBits 10 rfl (by simp only [BitVec.reduceToNat]; omega)
  case unmappedRd4018 | unmappedWr4018 => exact selects_of_highBits 11 rfl (by simp only [BitVec.reduceToNat]; omega)
  case apuRd4000 | apuWr4000 => exact selects_of_highBits 12 rfl (by simp only [BitVec.reduceToNat]; omega)
  case unmappedRd4020 | unmappedWr4020 => exact selects_of_highBits 13 rfl (by simp only [BitVec.reduceToNat]; omega)
  case unmappedRd4040 | unmappedWr4040 => exact selects_of_highBits 14 rfl (by simp only [BitVec.reduceToNat]; omega)
  case unmappedRd4080 | unmappedWr4080 => exact selects_of_highBits 15 rfl (by simp only [BitVec.reduceToNat]; omega)
  case unmappedRd4100 | unmappedWr4100 => exact selects_of_highBits 16 rfl (by simp only [BitVec.reduceToNat]; omega)
  case unmappedRd4200 | unmappedWr4200 => exact selects_of_highBits 17 rfl (by simp only [BitVec.reduceToNat]; omega)
  case unmappedRd4400 | unmappedWr4400 => exact selects_of_highBits 18 rfl (by simp only [BitVec.reduceToNat]; omega)
  case unmappedRd4800 | unmappedWr4800 => exact selects_of_highBits 19 rfl (by simp only [BitVec.reduceToNat]; omega)
  case unmappedRd5000 | unmappedWr5000 => exact selects_of_highBits 20 rfl (by simp only [BitVec.reduceToNat]; omega)
  case ramRd | ramWr | sramRd | sramWr => exact selects_of_highBits 21 rfl (by simp only [BitVec.reduceToNat]; omega)
  case prgRd | prgWr => exact selects_of_highBits 23 rfl (by simp only [BitVec.reduceToNat]; omega)

/-- A bus word with a zero reserved field is an operation, whose row selects it (R73, R74). -/
theorem exists_row_selects_of_busWord (hk : OpWord.field w 28 4 < 2) (hr : OpWord.field w 24 4 = 0) :
    ∃ i, decode w = .ok i ∧ i.row.selects w = true := by
  obtain ⟨i, hi, hbus⟩ : ∃ i, decode w = .ok i ∧ isBusOperation i = true := by
    rcases Nat.le_one_iff_eq_zero_or_eq_one.mp (Nat.le_of_lt_succ hk) with hk | hk
    · exact ⟨_, decode_of_kind_zero hk hr, decodeRead_isBusOperation _⟩
    · exact ⟨_, decode_of_kind_one hk hr, decodeWrite_isBusOperation _ _⟩
  obtain ⟨hwf, hread, hother⟩ := wf_and_encode_of_decode_ok hi
  refine ⟨i, hi, row_selects_of_wf hbus hwf ?_⟩
  by_cases hk0 : OpWord.field w 28 4 = 0
  · rw [hread hk0]
    omega
  · rw [hother hk0]

end Sys2Proof

namespace Sys2Proof.Machine

/-- A step that meets a word that is no operation is refused, and says why (R82 (d)). -/
theorem step_of_decode_error {s : State} {w : OpWord} {ws : List OpWord} {e : DecodeError}
    (hq : s.env.requests = w :: ws) (hw : decode w = .error e) : step s = .refused (.notAnOperation e) := by
  simp only [step, fetch_cons hq, hw]

end Sys2Proof.Machine

section
open Sys2Proof Sys2Proof.Machine

/-- Settles O2: a word's fields give the operands back, and an address is in the range it is decoded by. -/
theorem decodeEncodeRoundTrip : Obligations.DecodeEncodeRoundTrip := fun _ => decode_encode

/-- Settles O3: each format's word is built from the fields that its operation carries. -/
theorem encodeDecodeRestoresWord : Obligations.EncodeDecodeRestoresWord := by
  intro w i h
  rw [← field_kind_eq]
  exact wf_and_encode_of_decode_ok h

/-- Settles O4: the range an address was decoded by is the one its row fixes, and no word selects two rows. -/
theorem exactlyOneRowMatchesBusWord : Obligations.ExactlyOneRowMatchesBusWord := by
  intro w hk hr
  rw [← field_kind_eq] at hk
  obtain ⟨i, hi, hrow⟩ := exists_row_selects_of_busWord hk hr
  exact ⟨i, hi, hrow, fun j hj => row_eq_of_selects hrow hj⟩

/-- Settles O5: the kind names the reserved field that is not 0. -/
theorem nonOperationsAreRefused : Obligations.NonOperationsAreRefused := by
  intro s w ws hq
  simp only [← field_kind_eq]
  refine ⟨fun hk => step_of_decode_error hq (decode_of_kind_ge_ten hk), fun hr => step_of_decode_error hq ?_⟩
  rcases hr with ⟨hk, hr⟩ | ⟨hk, hr⟩ | ⟨hk, hr⟩ | ⟨hk, hr⟩
  · rcases Nat.le_one_iff_eq_zero_or_eq_one.mp (Nat.le_of_lt_succ hk) with hk | hk
    all_goals exact decode_of_reserved_ne_zero hk (by decide) rfl hr
  · rcases hk with hk | hk | hk
    all_goals exact decode_of_reserved_ne_zero hk (by decide) rfl hr
  · rcases hk with hk | hk
    all_goals exact decode_of_reserved_ne_zero hk (by decide) rfl hr
  · have hoperand : OpWord.field w 0 28 ≠ 0 := by rwa [OpWord.field, pow_zero, Nat.div_one]
    rcases hk with hk | hk | hk
    all_goals exact decode_of_reserved_ne_zero hk (by decide) rfl hoperand

/-- Settles O1, word by word. -/
theorem sampleWordsDecode : Obligations.SampleWordsDecode := by
  unfold Obligations.SampleWordsDecode
  decide

end
end

section
/-! PROOF. The statements of spec/40: bus operations on system RAM (O10, O11), save RAM (O13), PRG-ROM (O14, O15), the audio
region (O16) and unmapped space (O17). -/

namespace Sys2Proof

/-! The bus decode outside RAM and the PPU window (R72). -/

variable {a : Addr}

theorem decodeRead_of_io (hlo : 0x4000 ≤ a.toNat) (hhi : a.toNat < 0x4018) : decodeRead a = ioRead a := by
  rw [decodeRead, if_neg (by omega), if_neg (by omega), if_pos hhi]

theorem decodeWrite_of_io (hlo : 0x4000 ≤ a.toNat) (hhi : a.toNat < 0x4018) (v : Byte) :
    decodeWrite a v = ioWrite a v := by
  rw [decodeWrite, if_neg (by omega), if_neg (by omega), if_pos hhi]

theorem decodeRead_of_unmapped (hlo : 0x4018 ≤ a.toNat) (hhi : a.toNat ≤ 0x5FFF) : decodeRead a = unmappedRead a := by
  rw [decodeRead, if_neg (by omega), if_neg (by omega), if_neg (by omega), if_pos (by omega)]

theorem decodeWrite_of_unmapped (hlo : 0x4018 ≤ a.toNat) (hhi : a.toNat ≤ 0x5FFF) (v : Byte) :
    decodeWrite a v = unmappedWrite a v := by
  rw [decodeWrite, if_neg (by omega), if_neg (by omega), if_neg (by omega), if_pos (by omega)]

theorem decodeRead_of_sram (hlo : 0x6000 ≤ a.toNat) (hhi : a.toNat ≤ 0x7FFF) : decodeRead a = .sramRd a := by
  rw [decodeRead, if_neg (by omega), if_neg (by omega), if_neg (by omega), if_neg (by omega), if_pos (by omega)]

theorem decodeWrite_of_sram (hlo : 0x6000 ≤ a.toNat) (hhi : a.toNat ≤ 0x7FFF) (v : Byte) :
    decodeWrite a v = .sramWr a v := by
  rw [decodeWrite, if_neg (by omega), if_neg (by omega), if_neg (by omega), if_neg (by omega), if_pos (by omega)]

theorem decodeRead_of_prg (h : 0x8000 ≤ a.toNat) : decodeRead a = .prgRd a := by
  rw [decodeRead, if_neg (by omega), if_neg (by omega), if_neg (by omega), if_neg (by omega), if_neg (by omega)]

theorem decodeWrite_of_prg (h : 0x8000 ≤ a.toNat) (v : Byte) : decodeWrite a v = .prgWr a v := by
  rw [decodeWrite, if_neg (by omega), if_neg (by omega), if_neg (by omega), if_neg (by omega), if_neg (by omega)]

/-! The rows of the operations with several (R74). -/

/-- The rows of APU_RD (R95). -/
def apuReads (a : Addr) : List Instr := [.apuRd4000 a, .apuRd4010 a, .apuRd4015]

/-- The rows of APU_WR (R96). -/
def apuWrites (a : Addr) (v : Byte) : List Instr := [.apuWr4000 a v, .apuWr4010 a v, .apuWr4015 v, .apuWr4017 v]

/-- The rows of UNMAPPED_RD (R97). -/
def unmappedReads (a : Addr) : List Instr :=
  [.unmappedRd4018 a, .unmappedRd4020 a, .unmappedRd4040 a, .unmappedRd4080 a, .unmappedRd4100 a, .unmappedRd4200 a,
    .unmappedRd4400 a, .unmappedRd4800 a, .unmappedRd5000 a]

/-- The rows of UNMAPPED_WR (R97). -/
def unmappedWrites (a : Addr) (v : Byte) : List Instr :=
  [.unmappedWr4018 a v, .unmappedWr4020 a v, .unmappedWr4040 a v, .unmappedWr4080 a v, .unmappedWr4100 a v,
    .unmappedWr4200 a v, .unmappedWr4400 a v, .unmappedWr4800 a v, .unmappedWr5000 a v]

theorem ioRead_mem_apuReads (h : a.toNat ≤ 0x4013 ∨ a.toNat = 0x4015) : ioRead a ∈ apuReads a := by
  rcases h with h | h
  · unfold ioRead
    split
    · simp [apuReads]
    · rw [if_pos (by omega)]
      simp [apuReads]
  · obtain rfl : a = 0x4015 := BitVec.eq_of_toNat_eq h
    simp [ioRead, apuReads]

theorem ioWrite_mem_apuWrites (h : a.toNat ≤ 0x4013 ∨ a.toNat = 0x4015 ∨ a.toNat = 0x4017) (v : Byte) :
    ioWrite a v ∈ apuWrites a v := by
  rcases h with h | h | h
  · unfold ioWrite
    split
    · simp [apuWrites]
    · rw [if_pos (by omega)]
      simp [apuWrites]
  · obtain rfl : a = 0x4015 := BitVec.eq_of_toNat_eq h
    simp [ioWrite, apuWrites]
  · obtain rfl : a = 0x4017 := BitVec.eq_of_toNat_eq h
    simp [ioWrite, apuWrites]

theorem unmappedRead_mem_unmappedReads (a : Addr) : unmappedRead a ∈ unmappedReads a := by
  unfold unmappedRead
  repeat' split
  all_goals simp [unmappedReads]

theorem unmappedWrite_mem_unmappedWrites (a : Addr) (v : Byte) : unmappedWrite a v ∈ unmappedWrites a v := by
  unfold unmappedWrite
  repeat' split
  all_goals simp [unmappedWrites]

end Sys2Proof

namespace Sys2Proof.Machine

variable {s : State} {a : Addr}

/-! System RAM after the two operations that zero it (R36). -/

theorem tickCycles_ram (n : Nat) (s : State) : (tickCycles n s).ram = s.ram := by
  rw [show tickCycles n s = _ from sameButTiming_tickCycles s n]

theorem resetAccesses_of_unscripted (h : s.env.cpuResets = []) : resetAccesses s = ([], s) := by
  simp only [resetAccesses, h]

theorem cpuEntry_nil (hf : s.fault = none) (m : Nat) : cpuEntry [] m s = tickCycles m s := if_pos hf

/-- A RESET whose entry issues no bus operations zeroes the block and ticks the cost of the entry (R240, R241; log 10). -/
theorem exec_reset_of_unscripted (hf : s.fault = none) (hr : s.env.cpuResets = []) (m : BitVec 16) :
    exec (.reset m) s = .next (tickCycles m.toNat (zeroVolatile s)) := by
  change accept s (cpuEntry (resetAccesses s).1 m.toNat (zeroVolatile (resetAccesses s).2)) = _
  rw [accept_of_ok hf, resetAccesses_of_unscripted hr, cpuEntry_nil ((zeroVolatile_fault s).trans hf)]

/-! Save RAM. -/

theorem sramIndex_eq_sub (hlo : 0x6000 ≤ a.toNat) (hhi : a.toNat ≤ 0x7FFF) : sramIndex a = a.toNat - 0x6000 := by
  rw [sramIndex_eq]
  omega

theorem sramByte_of_listed {k : Nat} {w : Byte} (h : Memory.listed s.sram k = some w) : sramByte s k = w := by
  rw [sramByte, h, Option.getD_some]

theorem sramByte_of_unlisted {k : Nat} (h : Memory.listed s.sram k = none) :
    sramByte s k = Config.sramInit s.creations k := by
  rw [sramByte, h, Option.getD_none]

/-! PRG-ROM. -/

theorem prgIndex_one (a : Addr) : prgIndex 1 a = a.toNat % 0x4000 := prgIndex_eq 1 a

theorem prgIndex_of_ne_one {banks : Nat} (hb : banks ≠ 1) (h : 0x8000 ≤ a.toNat) :
    prgIndex banks a = a.toNat - 0x8000 := by
  rw [prgIndex_eq, if_neg hb]
  omega

theorem exec_prgRd_of_unloaded (hf : s.fault = none) (hc : s.cart.loaded = false) (a : Addr) :
    exec (.prgRd a) s = .next (raiseFault .noCartridge a .read s) := by
  change accept s (if s.cart.loaded then _ else _) = _
  rw [accept_of_ok hf, hc, if_neg Bool.false_ne_true]

theorem exec_prgRd_of_loaded (hf : s.fault = none) (hc : s.cart.loaded = true) (a : Addr) :
    exec (.prgRd a) s = .next (returnByte (Memory.get s.cart.prg (prgIndex s.cart.prgBanks a)) s) := by
  change accept s (if s.cart.loaded then _ else _) = _
  rw [accept_of_ok hf, if_pos hc]

/-! The audio region and unmapped space: every row does the same. -/

variable {i : Instr} {v : Byte}

/-- Under the decided APU_POLICY (D2). -/
theorem exec_of_mem_apuReads (hf : s.fault = none) (hi : i ∈ apuReads a) : exec i s = .next (returnByte 0 s) := by
  fin_cases hi
  all_goals exact accept_of_ok hf

/-- Under the decided APU_POLICY (D2). -/
theorem exec_of_mem_apuWrites (hf : s.fault = none) (hi : i ∈ apuWrites a v) : exec i s = .next s := by
  fin_cases hi
  all_goals exact accept_of_ok hf

theorem exec_of_mem_unmappedReads (hf : s.fault = none) (hi : i ∈ unmappedReads a) :
    exec i s = .next (raiseFault .routingFault a .read s) := by
  fin_cases hi
  all_goals exact accept_of_ok hf

theorem exec_of_mem_unmappedWrites (hf : s.fault = none) (hi : i ∈ unmappedWrites a v) :
    exec i s = .next (raiseFault .routingFault a .write s) := by
  fin_cases hi
  all_goals exact accept_of_ok hf

end Sys2Proof.Machine

section
open Sys2Proof Sys2Proof.Machine

/-- Settles O10: the index is the address modulo 0x800, and CREATE and RESET leave RAM empty, which TICK does not touch. -/
theorem ramReadReturnsMirroredByte : Obligations.RamReadReturnsMirroredByte := by
  refine fun s a hf ha => ⟨decodeRead_of_ram ha, ?_, ⟨createSystem s, rfl, Memory.get_nil _⟩, fun m hr => ?_⟩
  · rw [← ramIndex_eq]
    exact accept_of_ok hf
  · refine ⟨_, exec_reset_of_unscripted hf hr m, ?_⟩
    rw [tickCycles_ram, zeroVolatile_ram, Memory.get_nil]

/-- Settles O11: what a read sees after `Memory.set` at the address modulo 0x800. -/
theorem ramWriteStoresMirroredByte : Obligations.RamWriteStoresMirroredByte := by
  refine fun s a v hf ha => ⟨decodeWrite_of_ram ha v, Memory.set s.ram (ramIndex a) v, accept_of_ok hf, fun i => ?_⟩
  rw [Memory.get_set, ramIndex_eq]

/-- Settles O13: the index is the offset into the range, and the byte read is the listed one, else the open SRAM_INIT. -/
theorem saveRamReadAndWrite : Obligations.SaveRamReadAndWrite := by
  intro s a v hf hlo hhi
  rw [← sramIndex_eq_sub hlo hhi]
  refine ⟨decodeRead_of_sram hlo hhi, decodeWrite_of_sram hlo hhi v, ?_, ?_⟩
  · exact ⟨sramByte s (sramIndex a), accept_of_ok hf, fun _ h => sramByte_of_listed h, sramByte_of_unlisted⟩
  · exact ⟨Memory.put s.sram (sramIndex a) v, accept_of_ok hf, fun i => Memory.listed_put s.sram (sramIndex a) i v⟩

/-- Settles O14: the index by the number of banks. -/
theorem prgReadMirrorsOneBank : Obligations.PrgReadMirrorsOneBank := by
  intro s a hf ha
  refine ⟨decodeRead_of_prg ha, fun hc => exec_prgRd_of_unloaded hf hc a, fun hc hb => ?_, fun hc hb => ?_⟩
  · rw [exec_prgRd_of_loaded hf hc, hb, prgIndex_one]
    rfl
  · rw [exec_prgRd_of_loaded hf hc, prgIndex_of_ne_one hb ha]
    rfl

/-- Settles O15: the decided policy is `fault`, and under the other the state is left as it is. -/
theorem prgWriteFaults : Obligations.PrgWriteFaults :=
  fun _ _ v hf ha => ⟨decodeWrite_of_prg ha v, rfl, accept_of_ok hf, rfl⟩

/-- Settles O16: all rows do the same, and the address clauses lie in $4000-$4017. -/
theorem apuRegionIsIgnored : Obligations.ApuRegionIsIgnored := by
  refine fun s a v i hf => ⟨exec_of_mem_apuReads hf, exec_of_mem_apuWrites hf, fun h => ?_, fun h => ?_⟩
  · rw [decodeRead_of_io (by omega) (by omega)]
    exact ioRead_mem_apuReads (by omega)
  · rw [decodeWrite_of_io (by omega) (by omega)]
    exact ioWrite_mem_apuWrites (by omega) v

/-- Settles O17: all rows do the same, and the range decodes to one of them. -/
theorem unmappedAccessFaults : Obligations.UnmappedAccessFaults := by
  refine fun s a v i hf => ⟨exec_of_mem_unmappedReads hf, exec_of_mem_unmappedWrites hf, fun hlo hhi => ?_⟩
  rw [decodeRead_of_unmapped hlo hhi, decodeWrite_of_unmapped hlo hhi]
  exact ⟨unmappedRead_mem_unmappedReads a, unmappedWrite_mem_unmappedWrites a v⟩

end
end

section
/-! PROOF. The statements of spec/41: the ports that answer 0 (O18) or ignore a write (O19), the control bytes (O20, O21), the
status port (O22 to O24), the two-write ports (O25 to O27), and the VRAM data port (O28, O29). -/

namespace Sys2Proof.Machine

variable {s t u : State}

/-! The layouts of the data bytes, in arithmetic. -/

theorem getLsbD_iff (v : Byte) (k : Nat) : v.getLsbD k = true ↔ v.toNat / 2 ^ k % 2 = 1 := by
  rw [← BitVec.testBit_toNat, Nat.testBit_eq_decide_div_mod_eq, decide_eq_true_iff]

theorem not_getLsbD_iff (v : Byte) (k : Nat) : (!v.getLsbD k) = true ↔ v.toNat / 2 ^ k % 2 = 0 := by
  rw [Bool.not_eq_true', ← Bool.not_eq_true, getLsbD_iff, Nat.mod_two_not_eq_one]

theorem control1Of_baseNametable_toNat (v : Byte) : (control1Of v).baseNametable.toNat = v.toNat % 4 :=
  BitVec.extractLsb'_toNat 0 2 v

theorem control2Of_emphasis_toNat (v : Byte) : (control2Of v).emphasis.toNat = v.toNat / 32 := by
  change (v.extractLsb' 5 3).toNat = _
  rw [BitVec.extractLsb'_toNat, Nat.shiftRight_eq_div_pow]
  omega

/-- The three flags are the bits 7:5 of the status byte (R77). -/
theorem statusByte_toNat (s : State) :
    (statusByte s).toNat = s.vblank.toNat * 128 + s.sprite0Hit.toNat * 64 + s.spritesLost.toNat * 32 := by
  unfold statusByte
  generalize s.vblank = x, s.sprite0Hit = y, s.spritesLost = z
  revert x y z
  decide

theorem statusByte_of_clear (hv : s.vblank = false) (hh : s.sprite0Hit = false) (hl : s.spritesLost = false) :
    statusByte s = 0 := by
  apply BitVec.eq_of_toNat_eq
  rw [statusByte_toNat, hv, hh, hl]
  rfl

/-! The two halves of a VRAM address (R78), and its increment (R126). -/

theorem vramHigh_toNat (v : Byte) : (vramHigh v).toNat = v.toNat % 64 * 256 := by
  have hmask : (v &&& 0x3F#8).toNat = v.toNat % 64 := by
    rw [BitVec.toNat_and]
    exact Nat.and_two_pow_sub_one_eq_mod v.toNat 6
  rw [vramHigh, BitVec.toNat_shiftLeft, BitVec.toNat_setWidth, hmask, Nat.shiftLeft_eq]
  omega

theorem vramLow_toNat (x : VramAddr) (v : Byte) : (vramLow x v).toNat = x.toNat ||| v.toNat := by
  rw [vramLow, BitVec.toNat_or, BitVec.toNat_setWidth_of_le (by decide)]

/-- The two writes fill disjoint bits (R78). -/
theorem vramLow_vramHigh_toNat (v w : Byte) :
    (vramLow (vramHigh v) w).toNat = v.toNat % 64 * 256 + w.toNat := by
  rw [vramLow_toNat, vramHigh_toNat, Nat.mul_comm]
  exact (Nat.two_pow_add_eq_or_of_lt w.isLt _).symm

theorem vramNext_toNat (c : Control1) (x : VramAddr) :
    (vramNext c x).toNat = (x.toNat + if c.vramIncSel then 32 else 1) % 0x4000 := by
  rw [vramNext, BitVec.toNat_add, BitVec.toNat_ofNat, Nat.add_mod_mod]
  rfl

/-! An accepted operation that branches on the write latch (R20). -/

theorem accept_ite_of_latched (hf : s.fault = none) (hw : s.writeCount = true) :
    accept s (if s.writeCount then t else u) = .next t := by
  rw [accept_of_ok hf, if_pos hw]

theorem accept_ite_of_unlatched (hf : s.fault = none) (hw : s.writeCount = false) :
    accept s (if s.writeCount then t else u) = .next u := by
  rw [accept_of_ok hf, hw, if_neg Bool.false_ne_true]

/-! The two-write ports, by the write latch (R121, R123). -/

theorem exec_ppuscrollWr_first (hf : s.fault = none) (hw : s.writeCount = false) (a : Addr) (v : Byte) :
    exec (.ppuscrollWr a v) s = .next { s with scrollX := v, writeCount := true } :=
  accept_ite_of_unlatched hf hw

theorem exec_ppuscrollWr_second (hf : s.fault = none) (hw : s.writeCount = true) (a : Addr) (v : Byte) :
    exec (.ppuscrollWr a v) s = .next { s with scrollY := v, writeCount := false } :=
  accept_ite_of_latched hf hw

theorem exec_ppuaddrWr_first (hf : s.fault = none) (hw : s.writeCount = false) (a : Addr) (v : Byte) :
    exec (.ppuaddrWr a v) s = .next { s with vramAddr := vramHigh v, writeCount := true } :=
  accept_ite_of_unlatched hf hw

theorem exec_ppuaddrWr_second (hf : s.fault = none) (hw : s.writeCount = true) (a : Addr) (v : Byte) :
    exec (.ppuaddrWr a v) s = .next { s with vramAddr := vramLow s.vramAddr v, writeCount := false } :=
  accept_ite_of_latched hf hw

/-! The VRAM data port, by the write latch (R124, R125). -/

/-- Under the decided VRAM_READ_IS_PURE (D12). -/
theorem exec_ppudataRd_of_latched (hf : s.fault = none) (hw : s.writeCount = true) (a : Addr) :
    exec (.ppudataRd a) s = .next (raiseFault .protocolFault a .read s) :=
  accept_ite_of_latched hf hw

/-- Under the decided VRAM_READ_IS_PURE (D12). -/
theorem exec_ppudataRd_of_unlatched (hf : s.fault = none) (hw : s.writeCount = false) (a : Addr) :
    exec (.ppudataRd a) s = .next (returnByte 0 (vramAdvance s)) :=
  accept_ite_of_unlatched hf hw

theorem exec_ppudataWr_of_latched (hf : s.fault = none) (hw : s.writeCount = true) (a : Addr) (v : Byte) :
    exec (.ppudataWr a v) s = .next (raiseFault .protocolFault a .write s) :=
  accept_ite_of_latched hf hw

theorem exec_ppudataWr_of_unlatched (hf : s.fault = none) (hw : s.writeCount = false) (a : Addr) (v : Byte) :
    exec (.ppudataWr a v) s = .next (vramAdvance (vramStore s.vramAddr v s)) :=
  accept_ite_of_unlatched hf hw

/-! A store at a PPU address, region by region (R55). -/

section
variable {x : VramAddr}

theorem vramStore_of_pattern (h : x.toNat < 0x2000) (v : Byte) (s : State) : vramStore x v s = s := by
  rw [vramStore, if_neg (by omega), if_neg (by omega)]

theorem vramStore_of_nametable (hlo : 0x2000 ≤ x.toNat) (hhi : x.toNat < 0x3F00) (v : Byte) (s : State) :
    vramStore x v s = { s with nameAttr := Memory.put s.nameAttr (ntIndex s.cart.mirroring x) v } := by
  rw [vramStore, if_neg (by omega), if_pos hlo]

theorem vramStore_of_palette (h : 0x3F00 ≤ x.toNat) (v : Byte) (s : State) :
    vramStore x v s = { s with palette := Memory.set s.palette (palIndex x) v } := by
  rw [vramStore, if_pos h]

end

/-- No store at a PPU address raises a fault (D20). -/
theorem vramStore_fault (x : VramAddr) (v : Byte) (s : State) : (vramStore x v s).fault = s.fault := by
  rcases vramStore_cases x v s with e | e | e
  all_goals rw [e]

end Sys2Proof.Machine

section
open Sys2Proof Sys2Proof.Machine

/-- Settles O29: with the latch clear, the byte is stored by region and the address moves on in each. -/
theorem vramWriteStoresByRegion : Obligations.VramWriteStoresByRegion := by
  refine fun s a v hf => ⟨fun hw => exec_ppudataWr_of_latched hf hw a v, fun hw => ?_⟩
  rw [exec_ppudataWr_of_unlatched hf hw]
  refine ⟨vramNext s.ctrl1 s.vramAddr, vramNext_toNat s.ctrl1 s.vramAddr, fun h => ?_, fun hlo hhi => ?_, fun h => ?_⟩
  · rw [vramStore_of_pattern h]
    rfl
  · rw [vramStore_of_nametable hlo hhi]
    exact ⟨_, rfl, fun i => Memory.listed_put s.nameAttr _ i v⟩
  · rw [vramStore_of_palette h]
    exact ⟨_, rfl, fun i => Memory.get_set s.palette _ i v⟩

/-- Settles O18, row by row: each answers 0. -/
theorem writeOnlyPortsReadZero : Obligations.WriteOnlyPortsReadZero := by
  intro s a i hf hi
  fin_cases hi
  all_goals exact accept_of_ok hf

/-- Settles O19, row by row: each leaves the state as it is. -/
theorem spritePortWritesAreIgnored : Obligations.SpritePortWritesAreIgnored := by
  intro s a v i hf hi
  fin_cases hi
  all_goals exact accept_of_ok hf

/-- Settles O20: each field is a bit of the byte, the nametable select its low two. -/
theorem controlOneWriteDecodesBits : Obligations.ControlOneWriteDecodesBits :=
  fun _ _ v hf => ⟨control1Of v, accept_of_ok hf, getLsbD_iff v 7, getLsbD_iff v 5, getLsbD_iff v 4,
    getLsbD_iff v 3, getLsbD_iff v 2, control1Of_baseNametable_toNat v⟩

/-- Settles O21: each flag is a bit of the byte, the clip flags its inverse, the emphasis the high three bits. -/
theorem controlTwoWriteDecodesBits : Obligations.ControlTwoWriteDecodesBits :=
  fun _ _ v hf => ⟨control2Of v, accept_of_ok hf, control2Of_emphasis_toNat v, getLsbD_iff v 4,
    getLsbD_iff v 3, not_getLsbD_iff v 2, not_getLsbD_iff v 1, getLsbD_iff v 1⟩

/-- Settles O22: the byte is formed from the flags before they are cleared. -/
theorem statusReadReturnsAndClears : Obligations.StatusReadReturnsAndClears :=
  fun s _ hf => ⟨statusByte s, accept_of_ok hf, statusByte_toNat s⟩

/-- Settles O23: the read leaves the flags and the latch clear, so the status byte is 0 and the data port performs its access,
which raises no fault. -/
theorem statusReadRecoversLatch : Obligations.StatusReadRecoversLatch := by
  intro s a b d v hf
  let t := returnByte (statusByte s) { clearFlags s with writeCount := false }
  have ht : t.fault = none := hf
  have hw : t.writeCount = false := rfl
  refine ⟨t, _, _, _, accept_of_ok hf, accept_of_ok ht, ?_, exec_ppudataWr_of_unlatched ht hw d v, ?_,
    exec_ppudataRd_of_unlatched ht hw d, ht, rfl⟩
  · rw [returnByte_outputs, statusByte_of_clear (s := t) rfl rfl rfl]
    rfl
  · rw [vramAdvance_fault, vramStore_fault, ht]

/-- Settles O24: the write only raises the fault. -/
theorem statusWriteFaults : Obligations.StatusWriteFaults :=
  fun _ _ _ hf => accept_of_ok hf

/-- Settles O25: the latch selects the stage. -/
theorem scrollWriteTwoStages : Obligations.ScrollWriteTwoStages :=
  fun _ a v hf => ⟨fun hw => exec_ppuscrollWr_first hf hw a v, fun hw => exec_ppuscrollWr_second hf hw a v⟩

/-- Settles O26: the latch selects the stage. -/
theorem vramAddressWriteTwoStages : Obligations.VramAddressWriteTwoStages :=
  fun s a v hf => ⟨fun hw => ⟨_, exec_ppuaddrWr_first hf hw a v, vramHigh_toNat v⟩,
    fun hw => ⟨_, exec_ppuaddrWr_second hf hw a v, vramLow_toNat s.vramAddr v⟩⟩

/-- Settles O27: the first write of either port sets the latch, which the second of either port finds set and clears again. -/
theorem latchIsSharedByScrollAndAddress : Obligations.LatchIsSharedByScrollAndAddress := by
  intro s a b A B hf hw
  let scrolled : State := { s with scrollX := A, writeCount := true }
  let addressed : State := { s with vramAddr := vramHigh A, writeCount := true }
  have hscroll : exec (.ppuscrollWr a A) s = .next scrolled := exec_ppuscrollWr_first hf hw a A
  have haddr : exec (.ppuaddrWr a A) s = .next addressed := exec_ppuaddrWr_first hf hw a A
  have hfs : scrolled.fault = none := hf
  have hfa : addressed.fault = none := hf
  rw [hw]
  exact ⟨⟨_, hscroll, exec_ppuscrollWr_second hfs rfl b B⟩,
    ⟨_, _, haddr, exec_ppuaddrWr_second hfa rfl b B, vramLow_vramHigh_toNat A B⟩,
    ⟨_, _, hscroll, exec_ppuaddrWr_second hfs rfl b B, vramLow_toNat s.vramAddr B⟩,
    ⟨_, _, haddr, exec_ppuscrollWr_second hfa rfl b B, vramHigh_toNat A⟩⟩

/-- Settles O28: with the latch set the read faults, else it answers 0 and the address moves on. -/
theorem vramReadChecksAndIncrements : Obligations.VramReadChecksAndIncrements :=
  fun s a hf => ⟨fun hw => exec_ppudataRd_of_latched hf hw a,
    fun hw => ⟨_, exec_ppudataRd_of_unlatched hf hw a, vramNext_toNat s.ctrl1 s.vramAddr⟩⟩

end
end

section
/-! PROOF. The statements of spec/42: the copy and the cycle steal of a sprite DMA (O32), and the read of its port (O33). -/

namespace Sys2Proof.Machine

/-- Sprite RAM after the copy, through the page that the byte selects modulo 8 (R78 (d), R140). -/
theorem spriteDma_get_spriteRam (v : Byte) (s : State) (i : Nat) :
    Memory.get (spriteDma v s).spriteRam i
      = if i < spriteRamSize then Memory.get s.ram (v.toNat % 8 * 0x100 + i) else 0 := by
  rw [spriteDma_spriteRam, Memory.get_slice, dmaPage_eq]

end Sys2Proof.Machine

section
open Sys2Proof Sys2Proof.Machine

/-- Settles O32: the state is the one `spriteDma` gives, and its sprite RAM is read by index. -/
theorem spriteDmaCopiesPageAndStealsCycles : Obligations.SpriteDmaCopiesPageAndStealsCycles :=
  fun s v hf => ⟨(spriteDma v s).spriteRam, accept_of_ok hf, spriteDma_get_spriteRam v s⟩

/-- Settles O33: the read only raises the fault. -/
theorem spriteDmaReadFaults : Obligations.SpriteDmaReadFaults :=
  fun _ hf => accept_of_ok hf

end
end

section
/-! PROOF. The statements of spec/43: a controller read by strobe state (O34), the strobe (O35), the serial protocol of the eight
buttons (O36), and SET_BUTTON (O37). -/

namespace Sys2Proof.Machine

variable {s : State}

/-! A controller read, by strobe state (R150); `ctrlRead_of_reading` is the case before the eighth button. -/

theorem ctrlRead_of_idle (c : Fin 2) (hs : s.strobe = .idle) : ctrlRead c s = returnByte 0 s := by
  simp only [ctrlRead, hs, ctrlIdleReadValue]

theorem ctrlRead_of_reset (c : Fin 2) (hs : s.strobe = .reset) :
    ctrlRead c s = returnByte (bitByte s.buttons[c][0]) { s with cursor := s.cursor.set c 0 } := by
  simp only [ctrlRead, hs]
  rfl

theorem ctrlRead_of_overrun (c : Fin 2) (hs : s.strobe = .reading) (hc : 8 ≤ s.cursor[c].val) :
    ctrlRead c s = returnByte 1 s := by
  simp only [ctrlRead, hs, dif_neg (Nat.not_lt.mpr hc), ctrlOverrunValue]

/-- JOY1_RD reads controller 1 and JOY2_RD controller 2 (R150, R151). -/
theorem exec_joyRd (hf : s.fault = none) (c : Fin 2) :
    exec (if c = 0 then .joy1Rd else .joy2Rd) s = .next (ctrlRead c s) := by
  fin_cases c
  all_goals exact accept_of_ok hf

/-! The strobe (R152). -/

theorem strobeWrite_false_of_reset (hs : s.strobe = .reset) : strobeWrite false s = { s with strobe := .reading } :=
  if_pos hs

theorem strobeWrite_false_of_ne_reset (hs : s.strobe ≠ .reset) : strobeWrite false s = s :=
  if_neg hs

theorem exec_joy1Wr (hf : s.fault = none) (v : Byte) : exec (.joy1Wr v) s = .next (strobeWrite (v.getLsbD 0) s) :=
  accept_of_ok hf

/-- Bit 0 of a byte is its parity. -/
theorem getLsbD_zero_eq_decide (v : Byte) : v.getLsbD 0 = decide (v.toNat % 2 = 1) := by
  rw [Bool.eq_iff_iff, getLsbD_iff, decide_eq_true_iff, Nat.pow_zero, Nat.div_one]

/-! The buttons. -/

theorem getElem_set_fin {α : Type} {n : Nat} (xs : Vector α n) (i j : Fin n) (x : α) :
    (xs.set i x)[j] = if j = i then x else xs[j] := by
  simp only [Fin.getElem_fin, Vector.getElem_set, Fin.ext_iff, eq_comm]

/-! The serial protocol. -/

theorem performAccesses_append (ops ops' : List BusOp) (s : State) :
    performAccesses (ops ++ ops') s = performAccesses ops' (performAccesses ops s) := by
  induction ops generalizing s with
  | nil => rfl
  | cons op ops ih =>
    by_cases hf : s.fault = none
    · rw [List.cons_append, performAccesses_cons hf, performAccesses_cons hf, ih]
    · rw [performAccesses_faulted hf, performAccesses_faulted hf, performAccesses_faulted hf]

/-- What read number `k` after the strobe answers: the eight buttons of the controller, then 1 for ever (R150, D4, D9). -/
def serialOutput (row : Vector Bool 8) (k : Nat) : Output :=
  if h : k < 8 then .byte (bitByte row[k]) else .byte 1

/-- The state after the strobe and `n` reads of $4016: the cursor of controller 1 counts the reads up to 8 (R150, R152). -/
def serialState (s : State) (n : Nat) : State :=
  { s with
    strobe := .reading
    cursor := #v[⟨min n 8, by omega⟩, 0]
    outputs := ((List.range n).map (serialOutput s.buttons[0])).reverse ++ s.outputs }

/-- A read takes the protocol from `n` reads to `n + 1`: below 8 the cursor stands at button `n`, from 8 on it stays at 8. -/
theorem ctrlRead_serialState (s : State) (n : Nat) : ctrlRead 0 (serialState s n) = serialState s (n + 1) := by
  by_cases hn : n < 8
  · have hcur : (serialState s n).cursor[(0 : Fin 2)].val = n := Nat.min_eq_left hn.le
    rw [ctrlRead_of_reading 0 rfl (by omega)]
    simp [serialState, returnByte, answer, List.range_succ, serialOutput, hn, Nat.min_eq_left hn.le]
  · have h8 : 8 ≤ n := Nat.not_lt.mp hn
    have hcur : (serialState s n).cursor[(0 : Fin 2)].val = 8 := Nat.min_eq_right h8
    rw [ctrlRead_of_overrun 0 rfl hcur.ge]
    simp [serialState, returnByte, answer, List.range_succ, serialOutput, hn, Nat.min_eq_right h8,
      Nat.min_eq_right (Nat.le_succ_of_le h8)]

theorem performAccesses_serialState (hf : s.fault = none) (n : Nat) :
    performAccesses (List.replicate n (.read 0x4016)) (serialState s 0) = serialState s n := by
  induction n with
  | zero => rfl
  | succ n ih =>
    have hfn : (serialState s n).fault = none := hf
    rw [List.replicate_succ', performAccesses_append, ih, performAccesses_cons hfn, performAccess_read_4016 hfn,
      ctrlRead_serialState, performAccesses_nil]

end Sys2Proof.Machine

section
open Sys2Proof Sys2Proof.Machine

/-- Settles O36: the strobe enters the protocol at no read, and each read takes it one further. -/
theorem serialReadDeliversEightButtons : Obligations.SerialReadDeliversEightButtons := by
  intro s n hf
  have ht : performAccesses (.write 0x4016 1 :: .write 0x4016 0 :: List.replicate n (.read 0x4016)) s = serialState s n :=
    (performAccesses_strobe hf _).trans (performAccesses_serialState hf n)
  rw [ht]
  exact ⟨rfl, rfl, rfl, rfl, hf⟩

/-- Settles O34, strobe state by strobe state. -/
theorem controllerReadByStrobeState : Obligations.ControllerReadByStrobeState := by
  rintro s c _ hf rfl
  rw [exec_joyRd hf]
  refine ⟨fun hs => ?_, fun hs => ?_, fun k hs hk => ?_, fun hs hk => ?_⟩
  · rw [ctrlRead_of_idle c hs]
    rfl
  · rw [ctrlRead_of_reset c hs]
    rfl
  · rw [ctrlRead_of_reading c hs (hk ▸ k.isLt)]
    simp only [hk]
    rfl
  · rw [ctrlRead_of_overrun c hs hk.ge]
    rfl

/-- Settles O35: bit 0 of the byte is its parity, and with a 0 the strobe state decides. -/
theorem strobeWriteTransitions : Obligations.StrobeWriteTransitions := by
  intro s v hf
  rw [exec_joy1Wr hf, getLsbD_zero_eq_decide]
  refine ⟨fun hv => ?_, fun hv hs => ?_, fun hv hs => ?_⟩
  · rw [decide_eq_true hv]
    exact ⟨_, rfl, rfl, rfl⟩
  · rw [decide_eq_false (by omega), strobeWrite_false_of_reset hs]
  · rw [decide_eq_false (by omega), strobeWrite_false_of_ne_reset hs]

/-- Settles O37: the row of controller `c` is replaced by itself with button `b` set. -/
theorem setButtonWritesOneButton : Obligations.SetButtonWritesOneButton := by
  intro s c b p hf
  refine ⟨_, accept_of_ok hf, fun c' b' => ?_⟩
  rw [getElem_set_fin]
  by_cases hc : c' = c
  · subst hc
    rw [if_pos rfl, getElem_set_fin]
    simp only [true_and]
  · rw [if_neg hc, if_neg fun h => hc h.1]

end
end

section
/-! PROOF. The statements of spec/44: the totals of TICK (O38), its scan position (O39), the frames it enters (O40), the status
flags (O41), NMI_ACK (O42), and the frame driver's loop, that it ends (O43) and what an iteration does (O44). -/

namespace Sys2Proof.Machine

variable {s t u : State}

/-! TICK from a scan position in range: the counts of a fold, in dots (R166, R170). -/

theorem passEntries_div (s : State) (d : Nat) : passEntries s (d / 341) = s.entriesInto241 d := by
  simp only [passEntries, State.entriesInto241, State.lineStart, dotsPerFrame]
  omega

theorem passWraps_div (s : State) (d : Nat) : passWraps s (d / 341) = s.wraps d := by
  simp only [passWraps, State.wraps, State.lineStart, dotsPerFrame]
  omega

/-- TICK is a fold of the dots counted so far, then the sprite-zero test at the position reached (R165). -/
theorem tickCycles_folded (hs : s.scanlineInRange) (n : Nat) :
    ∃ u, Folded { s with cpuCycles := s.cpuCycles + n, dot := s.dot + 3 * n } u ((s.dot + 3 * n) / 341)
      ∧ tickCycles n s = { u with sprite0Hit := u.sprite0Hit || spriteZeroAt u } :=
  ⟨_, foldDots_folded hs.1 hs.2, spriteZeroTest_eq _⟩

theorem tickCycles_scanlineInRange (hs : s.scanlineInRange) (n : Nat) : (tickCycles n s).scanlineInRange := by
  obtain ⟨u, hu, e⟩ := tickCycles_folded hs n
  rw [e]
  exact State.scanlineInRange_iff.mpr ⟨hu.low, hu.high⟩

/-- The line reached is counted modulo 262 and the dots left modulo 341: together, the dots modulo a frame. -/
theorem tickCycles_position (hs : s.scanlineInRange) (n : Nat) :
    (tickCycles n s).lineStart + (tickCycles n s).dot = (s.lineStart + s.dot + 3 * n) % dotsPerFrame := by
  have hdot := tickCycles_dot s n
  obtain ⟨u, hu, e⟩ := tickCycles_folded hs n
  have hline : u.scanline + 1 = (s.scanline + 1 + ((s.dot + 3 * n) / 341 : Nat)) % 262 := hu.line
  rw [e] at hdot ⊢
  simp only [State.lineStart, dotsPerFrame] at hdot ⊢
  omega

theorem tickCycles_frameCount (hs : s.scanlineInRange) (n : Nat) :
    ((tickCycles n s).frameCount : Int) = s.frameCount + s.entriesInto241 (s.dot + 3 * n) := by
  obtain ⟨u, hu, e⟩ := tickCycles_folded hs n
  rw [e, ← passEntries_div]
  exact hu.frameCount

theorem tickCycles_frameDone (hs : s.scanlineInRange) (n : Nat) :
    (tickCycles n s).frameDone = (s.frameDone || decide (0 < s.entriesInto241 (s.dot + 3 * n))) := by
  obtain ⟨u, hu, e⟩ := tickCycles_folded hs n
  rw [e, ← passEntries_div]
  exact hu.frameDone

theorem tickCycles_nmiPending (hs : s.scanlineInRange) (n : Nat) :
    (tickCycles n s).nmiPending
      = (s.nmiPending || (s.ctrl1.nmiEnabled && decide (0 < s.entriesInto241 (s.dot + 3 * n)))) := by
  obtain ⟨u, hu, e⟩ := tickCycles_folded hs n
  rw [e, ← passEntries_div]
  exact hu.nmiPending

theorem tickCycles_vblank (hs : s.scanlineInRange) (n : Nat) :
    (tickCycles n s).vblank
      = if 0 < s.entriesInto241 (s.dot + 3 * n) ∨ 0 < s.wraps (s.dot + 3 * n) then decide (241 ≤ (tickCycles n s).scanline)
        else s.vblank := by
  obtain ⟨u, hu, e⟩ := tickCycles_folded hs n
  rw [e, ← passEntries_div, ← passWraps_div]
  exact hu.vblank

theorem tickCycles_spritesLost (hs : s.scanlineInRange) (n : Nat) :
    (tickCycles n s).spritesLost = if 0 < s.wraps (s.dot + 3 * n) then false else s.spritesLost := by
  obtain ⟨u, hu, e⟩ := tickCycles_folded hs n
  rw [e, ← passWraps_div]
  exact hu.spritesLost

theorem tickCycles_spriteRam (n : Nat) (s : State) : (tickCycles n s).spriteRam = s.spriteRam := by
  rw [show tickCycles n s = _ from sameButTiming_tickCycles s n]

/-- The sprite-zero test does not look at the flag it sets. -/
theorem tickCycles_sprite0Hit (hs : s.scanlineInRange) (n : Nat) :
    (tickCycles n s).sprite0Hit
      = ((if 0 < s.wraps (s.dot + 3 * n) then false else s.sprite0Hit) || spriteZeroAt (tickCycles n s)) := by
  obtain ⟨u, hu, e⟩ := tickCycles_folded hs n
  rw [e, ← passWraps_div]
  exact congrArg (· || spriteZeroAt u) hu.sprite0Hit

/-- Sprite zero's box, in arithmetic (R168). -/
theorem spriteZeroAt_iff (s : State) :
    spriteZeroAt s = true ↔ 0 ≤ s.scanline ∧ s.scanline ≤ 239 ∧ s.dot < 256
      ∧ ((Memory.get s.spriteRam 0).toNat : Int) ≤ s.scanline ∧ s.scanline ≤ (Memory.get s.spriteRam 0).toNat + 7
      ∧ (Memory.get s.spriteRam 3).toNat ≤ s.dot ∧ s.dot ≤ (Memory.get s.spriteRam 3).toNat + 7 := by
  simp only [spriteZeroAt, Bool.and_eq_true, decide_eq_true_iff, and_assoc]

theorem tickCycles_fault (n : Nat) (s : State) : (tickCycles n s).fault = s.fault := by
  rw [show tickCycles n s = _ from sameButTiming_tickCycles s n]

theorem exec_tick (hf : s.fault = none) (n : BitVec 16) : exec (.tick n) s = .next (tickCycles n.toNat s) :=
  accept_of_ok hf

/-! The entries into the CPU (R181, R224). -/

theorem cpuEntry_of_ok {ops : List BusOp} (h : (performAccesses ops s).fault = none) (m : Nat) :
    cpuEntry ops m s = tickCycles m (performAccesses ops s) := if_pos h

theorem cpuEntry_of_faulted {ops : List BusOp} (h : (performAccesses ops s).fault ≠ none) (m : Nat) :
    cpuEntry ops m s = performAccesses ops s := if_neg h

/-- The cost of an entry is ticked exactly when its bus operations raise no fault (R214). -/
theorem cpuEntry_fault (ops : List BusOp) (m : Nat) (s : State) :
    (cpuEntry ops m s).fault = (performAccesses ops s).fault := by
  by_cases h : (performAccesses ops s).fault = none
  · rw [cpuEntry_of_ok h, tickCycles_fault]
  · rw [cpuEntry_of_faulted h]

theorem exec_nmiAck_of_clear (hf : s.fault = none) (hn : s.nmiPending = false) (m : BitVec 16) :
    exec (.nmiAck m) s = .refused .noNmiPending := if_pos ⟨hf, hn⟩

theorem exec_nmiAck_of_pending (hf : s.fault = none) (hn : s.nmiPending = true) (m : BitVec 16) :
    exec (.nmiAck m) s = .next (takeNmi (nmiAccesses s).1 m.toNat (nmiAccesses s).2) :=
  (if_neg fun h => Bool.false_ne_true (h.2.symm.trans hn)).trans (accept_of_ok hf)

/-- Without a script the entry issues no bus operations (log 10). -/
theorem exec_nmiAck_of_unscripted (hf : s.fault = none) (hn : s.nmiPending = true) (hc : s.env.cpuNmis = [])
    (m : BitVec 16) : exec (.nmiAck m) s = .next (tickCycles m.toNat { s with nmiPending := false }) := by
  have ha : nmiAccesses s = ([], s) := by simp only [nmiAccesses, hc]
  rw [exec_nmiAck_of_pending hf hn, ha, takeNmi, cpuEntry_nil]
  exact hf

/-- With a script the entry issues the bus operations of its next call, at the word's cost (log 10). -/
theorem exec_nmiAck_of_scripted {c : CpuCall} {cs : List CpuCall} (hf : s.fault = none) (hn : s.nmiPending = true)
    (hc : s.env.cpuNmis = c :: cs) (m : BitVec 16) :
    exec (.nmiAck m) s
      = .next (cpuEntry c.accesses m.toNat { s with nmiPending := false, env := { s.env with cpuNmis := cs } }) := by
  have ha : nmiAccesses s = (c.accesses, { s with env := { s.env with cpuNmis := cs } }) := by simp only [nmiAccesses, hc]
  rw [exec_nmiAck_of_pending hf hn, ha, takeNmi]

/-! The frame loop, one iteration at a time (R182). -/

theorem callStep_of_scripted {c : CpuCall} {cs : List CpuCall} (h : s.env.cpuSteps = c :: cs) :
    callStep s = (c, { s with env := { s.env with cpuSteps := cs } }) := by
  simp only [callStep, h]

theorem callNmi_of_scripted {c : CpuCall} {cs : List CpuCall} (h : s.env.cpuNmis = c :: cs) :
    callNmi s = (c, { s with env := { s.env with cpuNmis := cs } }) := by
  simp only [callNmi, h]

theorem callStep_cpuSteps (s : State) : (callStep s).2.env.cpuSteps = s.env.cpuSteps.tail := by
  unfold callStep
  split
  · next h => rw [h, List.tail_cons]
  · next h => rw [h, List.tail_nil]

/-- A step uses the script up, or it is the free CPU's and costs at least one cycle (log 2). -/
theorem callStep_cost (s : State) :
    s.env.cpuSteps.tail.length + 1 ≤ s.env.cpuSteps.length + (callStep s).1.cycles := by
  unfold callStep
  split
  · next h => simp [h]
  · next h => simp [h]

theorem callNmi_cpuSteps (s : State) : (callNmi s).2.env.cpuSteps = s.env.cpuSteps := by
  unfold callNmi
  split <;> rfl

theorem serviceNmi_of_clear (h : s.nmiPending = false) : serviceNmi s = s :=
  if_neg (by rw [h]; exact Bool.false_ne_true)

theorem serviceNmi_of_pending (h : s.nmiPending = true) :
    serviceNmi s = takeNmi (callNmi s).1.accesses (callNmi s).1.cycles (callNmi s).2 := if_pos h

theorem serviceNmi_of_scripted {d : CpuCall} {ds : List CpuCall} (hn : s.nmiPending = true)
    (hd : s.env.cpuNmis = d :: ds) :
    serviceNmi s = cpuEntry d.accesses d.cycles { s with nmiPending := false, env := { s.env with cpuNmis := ds } } := by
  rw [serviceNmi_of_pending hn, callNmi_of_scripted hd, takeNmi]

theorem serviceNmi_cpuSteps (s : State) : (serviceNmi s).env.cpuSteps = s.env.cpuSteps := by
  cases h : s.nmiPending with
  | false => rw [serviceNmi_of_clear h]
  | true => rw [serviceNmi_of_pending h, takeNmi_env, callNmi_cpuSteps]

/-- An iteration is the CPU's step, at its cost, and the NMI service unless the step faulted (R182, R214). -/
theorem frameIteration_eq (s : State) :
    frameIteration s =
      if (cpuEntry (callStep s).1.accesses (callStep s).1.cycles (callStep s).2).fault = none then
        serviceNmi (cpuEntry (callStep s).1.accesses (callStep s).1.cycles (callStep s).2)
      else cpuEntry (callStep s).1.accesses (callStep s).1.cycles (callStep s).2 := by
  rw [cpuEntry_fault]
  unfold frameIteration cpuEntry
  simp only
  split <;> rfl

theorem frameIteration_of_scripted {c : CpuCall} {cs : List CpuCall} (h : s.env.cpuSteps = c :: cs) :
    frameIteration s =
      let t := performAccesses c.accesses { s with env := { s.env with cpuSteps := cs } }
      if t.fault = none then serviceNmi (tickCycles c.cycles t) else t := by
  rw [frameIteration, callStep_of_scripted h]

theorem frameIteration_cpuSteps (s : State) : (frameIteration s).env.cpuSteps = s.env.cpuSteps.tail := by
  rw [frameIteration_eq]
  split
  · rw [serviceNmi_cpuSteps, cpuEntry_env, callStep_cpuSteps]
  · rw [cpuEntry_env, callStep_cpuSteps]

theorem frameLoop_succ_of_end (k : Nat) (h : (frameIteration s).fault ≠ none ∨ (frameIteration s).frameDone = true) :
    frameLoop (k + 1) s = .next (frameIteration s) :=
  if_neg fun hc => h.elim (fun hf => hf hc.1) fun hd => Bool.false_ne_true (hc.2.symm.trans hd)

theorem frameLoop_succ_of_continue (k : Nat) (hf : (frameIteration s).fault = none)
    (hd : (frameIteration s).frameDone = false) : frameLoop (k + 1) s = frameLoop k (frameIteration s) :=
  if_pos ⟨hf, hd⟩

theorem exec_advanceFrame (hf : s.fault = none) :
    exec .advanceFrame s = frameLoop (s.env.cpuSteps.length + frameStepBound) { s with frameDone := false } := if_pos hf

/-- From a state whose `frame_done` is clear already, ADVANCE_FRAME is the loop alone (R182 (e)). -/
theorem exec_advanceFrame_of_notDone (hf : s.fault = none) (hd : s.frameDone = false) :
    exec .advanceFrame s = frameLoop (s.env.cpuSteps.length + frameStepBound) s := by
  rw [exec_advanceFrame hf, show { s with frameDone := false } = s by rw [← hd]]

section
variable {c : CpuCall} {cs : List CpuCall} (hc : s.env.cpuSteps = c :: cs)
include hc

/-- With a scripted step, ADVANCE_FRAME begins with one iteration of the loop. -/
theorem exec_advanceFrame_of_scripted (hf : s.fault = none) :
    exec .advanceFrame s = frameLoop (cs.length + frameStepBound + 1) { s with frameDone := false } := by
  rw [exec_advanceFrame hf, hc, List.length_cons, Nat.add_right_comm]

/-- An iteration that faults or sets `frame_done` is the last (R182, R214). -/
theorem exec_advanceFrame_of_end (hf : s.fault = none) (hi : frameIteration { s with frameDone := false } = t)
    (h : t.fault ≠ none ∨ t.frameDone = true) : exec .advanceFrame s = .next t := by
  subst hi
  rw [exec_advanceFrame_of_scripted hc hf, frameLoop_succ_of_end _ h]

/-- An iteration that leaves `frame_done` clear is followed by the rest of the loop: the bound it leaves is the one ADVANCE_FRAME
takes from there, for the step used one call of the script up. -/
theorem exec_advanceFrame_of_continue (hf : s.fault = none) (hi : frameIteration { s with frameDone := false } = t)
    (ht : t.fault = none) (hd : t.frameDone = false) : exec .advanceFrame s = exec .advanceFrame t := by
  have hsteps : t.env.cpuSteps = cs := by rw [← hi, frameIteration_cpuSteps, hc, List.tail_cons]
  subst hi
  rw [exec_advanceFrame_of_scripted hc hf, frameLoop_succ_of_continue _ ht hd, exec_advanceFrame_of_notDone ht hd, hsteps]

end

/-! How far the scan moves towards scanline 241 (R182 (d)). -/

/-- The dots since the scan last entered scanline 241, those not yet folded counted. -/
def State.vblankPhase (s : State) : Int := (s.lineStart + 6820) % dotsPerFrame + s.dot

/-- With all dots folded, less than a frame of dots has passed since scanline 241 was entered. -/
theorem vblankPhase_lt (h : s.dot < 341) : s.vblankPhase < dotsPerFrame := by
  simp only [State.vblankPhase, State.lineStart, dotsPerFrame]
  omega

theorem entriesInto241_nonneg (s : State) (d : Nat) : 0 ≤ s.entriesInto241 d := by
  simp only [State.entriesInto241, dotsPerFrame]
  omega

/-- A TICK that does not enter scanline 241 moves the phase on by its dots. -/
theorem tickCycles_vblankPhase (hs : s.scanlineInRange) {n : Nat} (h : s.entriesInto241 (s.dot + 3 * n) = 0) :
    (tickCycles n s).vblankPhase = s.vblankPhase + 3 * n := by
  have hpos := tickCycles_position hs n
  have hdot := tickCycles_dot s n
  simp only [State.vblankPhase, State.entriesInto241, State.lineStart, dotsPerFrame] at hpos h ⊢
  omega

/-- From `s` to `t` the scan has entered scanline 241, or it has moved on by at least `d` dots without (R166, R167). -/
structure Progress (s : State) (d : Nat) (t : State) : Prop where
  inRange : t.scanlineInRange
  moved : (t.frameDone = true ∧ s.frameCount < t.frameCount)
    ∨ (t.frameDone = s.frameDone ∧ t.frameCount = s.frameCount ∧ s.vblankPhase + d ≤ t.vblankPhase)

/-- Operations that fold nothing and count no dots away. -/
theorem Progress.of_dot_le (hs : s.scanlineInRange) (hline : t.scanline = s.scanline) (hdone : t.frameDone = s.frameDone)
    (hcount : t.frameCount = s.frameCount) (hdot : s.dot ≤ t.dot) : Progress s 0 t where
  inRange := by rwa [State.scanlineInRange, hline]
  moved := by
    refine .inr ⟨hdone, hcount, ?_⟩
    simp only [State.vblankPhase, State.lineStart, hline]
    omega

theorem Progress.mono {d e : Nat} (h : Progress s d t) (hle : e ≤ d) : Progress s e t where
  inRange := h.inRange
  moved := h.moved.imp_right fun ⟨hdone, hcount, hphase⟩ => ⟨hdone, hcount, by omega⟩

theorem Progress.trans {d e : Nat} (h : Progress s d t) (h' : Progress t e u) : Progress s (d + e) u where
  inRange := h'.inRange
  moved := by
    rcases h.moved with ⟨hdone, hcount⟩ | ⟨hdone, hcount, hphase⟩
    · rcases h'.moved with ⟨hdone', hcount'⟩ | ⟨hdone', hcount', -⟩
      · exact .inl ⟨hdone', hcount.trans hcount'⟩
      · exact .inl ⟨hdone'.trans hdone, hcount'.symm ▸ hcount⟩
    · rcases h'.moved with ⟨hdone', hcount'⟩ | ⟨hdone', hcount', hphase'⟩
      · exact .inl ⟨hdone', hcount ▸ hcount'⟩
      · refine .inr ⟨hdone'.trans hdone, hcount'.trans hcount, ?_⟩
        push_cast
        omega

theorem tickCycles_progress (hs : s.scanlineInRange) (n : Nat) : Progress s (3 * n) (tickCycles n s) where
  inRange := tickCycles_scanlineInRange hs n
  moved := by
    have hcount := tickCycles_frameCount hs n
    have hdone := tickCycles_frameDone hs n
    by_cases h : 0 < s.entriesInto241 (s.dot + 3 * n)
    · exact .inl ⟨by rw [hdone, decide_eq_true h, Bool.or_true], by omega⟩
    · have h0 : s.entriesInto241 (s.dot + 3 * n) = 0 := le_antisymm (not_lt.mp h) (entriesInto241_nonneg s _)
      refine .inr ⟨by rw [hdone, decide_eq_false h, Bool.or_false], by omega, ?_⟩
      rw [tickCycles_vblankPhase hs h0]
      omega

/-- A bus operation counts dots only up: SPRDMA_WR does, the others leave them (R60, R143). -/
theorem BusStep.dot_le (h : BusStep s t) : s.dot ≤ t.dot := by
  cases h with
  | dma v => exact Nat.le_add_right _ _
  | vramStore v => exact (sameClock_vramStore s.vramAddr v s).1.ge
  | ctrlRead c => exact (sameClock_ctrlRead c s).1.ge
  | strobe bit => exact (sameClock_strobeWrite bit s).1.ge
  | _ => exact Nat.le_refl _

theorem BusStep.progress (hs : s.scanlineInRange) (h : BusStep s t) : Progress s 0 t := by
  have hsame : t = _ := h.sameButBus
  refine .of_dot_le hs ?_ ?_ ?_ h.dot_le
  all_goals rw [hsame]

theorem performAccesses_progress (hs : s.scanlineInRange) (ops : List BusOp) : Progress s 0 (performAccesses ops s) :=
  performAccesses_keeps (P := Progress s 0) (fun _ hp hb => hp.trans (hb.progress hp.inRange)) ops
    (.of_dot_le hs rfl rfl rfl (Nat.le_refl _))

/-- An entry into the CPU that raises no fault moves the scan by its cost at least, and leaves the dots folded. -/
theorem cpuEntry_progress {ops : List BusOp} {m : Nat} (hs : s.scanlineInRange) (hf : (cpuEntry ops m s).fault = none) :
    Progress s (3 * m) (cpuEntry ops m s) ∧ (cpuEntry ops m s).dot < 341 := by
  rw [cpuEntry_fault] at hf
  have hp := performAccesses_progress hs ops
  rw [cpuEntry_of_ok hf, tickCycles_dot]
  refine ⟨?_, Nat.mod_lt _ (by decide)⟩
  simpa using hp.trans (tickCycles_progress hp.inRange m)

theorem callStep_progress (hs : s.scanlineInRange) : Progress s 0 (callStep s).2 := by
  unfold callStep
  split
  all_goals exact .of_dot_le hs rfl rfl rfl (Nat.le_refl _)

theorem callNmi_progress (hs : s.scanlineInRange) : Progress s 0 { (callNmi s).2 with nmiPending := false } := by
  unfold callNmi
  split
  all_goals exact .of_dot_le hs rfl rfl rfl (Nat.le_refl _)

theorem serviceNmi_progress (hs : s.scanlineInRange) (hd : s.dot < 341) (hf : (serviceNmi s).fault = none) :
    Progress s 0 (serviceNmi s) ∧ (serviceNmi s).dot < 341 := by
  cases hn : s.nmiPending with
  | false =>
    rw [serviceNmi_of_clear hn]
    exact ⟨.of_dot_le hs rfl rfl rfl (Nat.le_refl _), hd⟩
  | true =>
    rw [serviceNmi_of_pending hn, takeNmi] at hf ⊢
    have hcall := callNmi_progress hs
    obtain ⟨hp, hdot⟩ := cpuEntry_progress hcall.inRange hf
    exact ⟨(hcall.trans hp).mono (Nat.zero_le _), hdot⟩

/-- An iteration that raises no fault moves the scan by the cost of its step at least, and leaves the dots folded. -/
theorem frameIteration_progress (hs : s.scanlineInRange) (hf : (frameIteration s).fault = none) :
    Progress s (3 * (callStep s).1.cycles) (frameIteration s) ∧ (frameIteration s).dot < 341 := by
  have hcall := callStep_progress hs
  rw [frameIteration_eq] at hf ⊢
  split at hf
  · next he =>
    obtain ⟨hstep, hdot⟩ := cpuEntry_progress hcall.inRange he
    obtain ⟨hnmi, hdot'⟩ := serviceNmi_progress hstep.inRange hdot hf
    rw [if_pos he]
    exact ⟨((hcall.trans hstep).trans hnmi).mono (by omega), hdot'⟩
  · next he => exact absurd hf he

/-- The loop ends (R182 (d)): a step uses up a call of the script or at least 3 of the dots that are left to scanline 241, and
an iteration that has not reached it leaves at least one. -/
theorem frameLoop_completes (k : Nat) (hs : s.scanlineInRange) (hd : s.frameDone = false) (hk : 0 < k)
    (hfuel : 3 * (s.env.cpuSteps.length : Int) + dotsPerFrame ≤ 3 * k + s.vblankPhase) :
    ∃ t, frameLoop k s = .next t ∧ (t.fault = none → t.frameDone = true ∧ s.frameCount < t.frameCount) := by
  induction k generalizing s with
  | zero => exact absurd hk (Nat.lt_irrefl 0)
  | succ k ih =>
    by_cases hf : (frameIteration s).fault = none
    · obtain ⟨⟨hrange, hmoved⟩, hdot⟩ := frameIteration_progress hs hf
      rcases hmoved with ⟨hdone, hcount⟩ | ⟨hdone, hcount, hphase⟩
      · exact ⟨_, frameLoop_succ_of_end k (.inr hdone), fun _ => ⟨hdone, hcount⟩⟩
      · have hnot : (frameIteration s).frameDone = false := hdone.trans hd
        have hcost := callStep_cost s
        have hleft := vblankPhase_lt hdot
        have hsteps := congrArg List.length (frameIteration_cpuSteps s)
        rw [frameLoop_succ_of_continue k hf hnot, ← hcount]
        exact ih hrange hnot (by omega) (by omega)
    · exact ⟨_, frameLoop_succ_of_end k (.inl hf), fun h => absurd h hf⟩

end Sys2Proof.Machine

section
open Sys2Proof Sys2Proof.Machine

/-- Settles O38: the totals of TICK, and its frame, `sameButTiming`. -/
theorem tickAdvancesTotals : Obligations.TickAdvancesTotals :=
  fun s n hf => ⟨_, exec_tick hf n, tickCycles_cpuCycles s _, tickCycles_dot s _, sameButTiming_tickCycles s _⟩

/-- Settles O39: FOLD counts scanlines modulo 262 and leaves the dots modulo 341. -/
theorem tickMovesScanPosition : Obligations.TickMovesScanPosition :=
  fun _ n hf hs => ⟨_, exec_tick hf n, tickCycles_scanlineInRange hs _, tickCycles_position hs _⟩

/-- Settles O40: FOLD counts the entries in scanlines, and 341 dots are one. -/
theorem tickCountsFramesAndSignalsNmi : Obligations.TickCountsFramesAndSignalsNmi :=
  fun _ n hf hs =>
    ⟨_, exec_tick hf n, tickCycles_frameCount hs _, tickCycles_frameDone hs _, tickCycles_nmiPending hs _⟩

/-- Settles O41: the flags FOLD leaves, then the test at the position reached, with the sprite RAM that TICK does not touch. -/
theorem tickSetsStatusFlags : Obligations.TickSetsStatusFlags := by
  refine fun s n hf hs => ⟨_, exec_tick hf n, tickCycles_vblank hs _, tickCycles_spritesLost hs _, ?_⟩
  rw [tickCycles_sprite0Hit hs, Bool.or_eq_true, spriteZeroAt_iff, tickCycles_spriteRam]
  by_cases hw : 0 < s.wraps (s.dot + 3 * n.toNat)
  all_goals simp [hw]

/-- Settles O42, by the script: without one the entry is the TICK, with one the accesses decide whether the cost passes. -/
theorem nmiAckTakesPendingNmi : Obligations.NmiAckTakesPendingNmi := by
  refine fun s m hf => ⟨fun hn => exec_nmiAck_of_clear hf hn m, fun hn hc => ?_, fun c cs hn hc => ?_⟩
  · exact ⟨_, exec_nmiAck_of_unscripted hf hn hc m, exec_tick (s := { s with nmiPending := false }) hf m⟩
  · rw [exec_nmiAck_of_scripted hf hn hc]
    exact ⟨fun hu => ⟨_, by rw [cpuEntry_of_ok hu], exec_tick hu m⟩, fun hu => by rw [cpuEntry_of_faulted hu]⟩

/-- Settles O43: the bound ADVANCE_FRAME takes is a whole frame of dots, three a pass, beyond the script. -/
theorem advanceFrameCompletes : Obligations.AdvanceFrameCompletes := by
  intro s hf hs
  rw [exec_advanceFrame hf]
  refine frameLoop_completes (s := { s with frameDone := false }) _ hs rfl (Nat.succ_pos _) ?_
  simp only [State.vblankPhase, dotsPerFrame, frameStepBound]
  omega

/-- Settles O44: the first iteration is the scripted step, its TICK, and the NMI entry when one is pending. -/
theorem advanceFrameUnrolls : Obligations.AdvanceFrameUnrolls := by
  intro s c cs hf hc u v
  have hi : frameIteration { s with frameDone := false } = if u.fault = none then serviceNmi v else u :=
    frameIteration_of_scripted (s := { s with frameDone := false }) hc
  have hv : u.fault = none → v.fault = none := (tickCycles_fault c.cycles u).trans
  refine ⟨fun hu => ?_, fun hu hn hd => ?_, fun hu hn hd => ?_, fun d ds hu hn hds => ?_⟩
  · rw [if_neg hu] at hi
    exact exec_advanceFrame_of_end hc hf hi (.inl hu)
  · rw [if_pos hu, serviceNmi_of_clear hn] at hi
    exact exec_advanceFrame_of_end hc hf hi (.inr hd)
  · rw [if_pos hu, serviceNmi_of_clear hn] at hi
    exact exec_advanceFrame_of_continue hc hf hi (hv hu) hd
  · rw [if_pos hu, serviceNmi_of_scripted hn hds] at hi
    exact ⟨exec_advanceFrame_of_end hc hf hi, exec_advanceFrame_of_continue hc hf hi⟩

end
end

section
/-! PROOF. The statements of spec/45: CREATE (O45), LOAD_CART with an image it accepts (O49) and one it does not (O50), the tile
unpacker (O51), and PALETTE_QUERY (O52). -/

namespace Sys2Proof.Machine

variable {s : State} {im : Image} {ims : List Image}

/-! The unpacked tiles: a pixel is two bits, and its place in `tiles` is its number in the order R197 counts them. -/

theorem bitByte_getLsbD_toNat (v : Byte) (k : Nat) : (bitByte (v.getLsbD k)).toNat = v.toNat / 2 ^ k % 2 := by
  have hbit := getLsbD_iff v k
  cases hb : v.getLsbD k with
  | true => exact (hbit.mp hb).symm
  | false =>
    rw [hb] at hbit
    exact (Nat.mod_two_ne_one.mp (mt hbit.mpr Bool.false_ne_true)).symm

/-- The low plane gives bit 0 of a pixel, the high plane bit 1. -/
theorem bitByte_or_shift_toNat (low high : Bool) :
    (bitByte low ||| bitByte high <<< 1).toNat = (bitByte low).toNat + 2 * (bitByte high).toNat := by
  cases low <;> cases high <;> rfl

theorem tilePixel_toNat (block : Memory) (k : Nat) :
    (tilePixel block k).toNat =
      (Memory.get block (k / 8)).toNat / 2 ^ (7 - k % 8) % 2
        + 2 * ((Memory.get block (8 + k / 8)).toNat / 2 ^ (7 - k % 8) % 2) := by
  rw [tilePixel, bitByte_or_shift_toNat, bitByte_getLsbD_toNat, bitByte_getLsbD_toNat]

theorem Memory.listed_of_mem {m : Memory} {lo size a : Nat} {v : Byte} (h : Memory.rising m lo size = true)
    (hm : (a, v) ∈ m) : Memory.listed m a = some v := by
  induction m generalizing lo with
  | nil => cases hm
  | cons c m ih =>
    obtain ⟨-, -, hrise⟩ := Memory.rising_cons.mp h
    rcases List.mem_cons.mp hm with rfl | hm
    · exact Memory.listed_head (a, v) m
    · have hl := ih hrise hm
      have hne : c.1 ≠ a := by
        rintro rfl
        exact nomatch (Memory.listed_eq_none_of_rising hrise (Nat.lt_succ_self c.1)).symm.trans hl
      rwa [Memory.listed_cons_of_ne hne]

/-- The cells of a canonical memory are its non-zero bytes. -/
theorem Memory.mem_iff {m : Memory} {size a : Nat} {v : Byte} (h : Memory.wf m size = true) :
    (a, v) ∈ m ↔ v ≠ Memory.unlisted ∧ Memory.get m a = v := by
  rw [← Memory.listed_eq_some_iff h]
  exact ⟨Memory.listed_of_mem (Memory.wf_iff.mp h).1, Memory.mem_of_listed⟩

theorem mem_tilePixels {chr : Memory} {t a : Nat} {v : Byte} :
    (a, v) ∈ tilePixels chr t ↔
      ∃ k < 64, a = t * 64 + k ∧ v ≠ Memory.unlisted ∧ tilePixel (Memory.slice chr (t * 16) 16) k = v := by
  simp only [tilePixels, List.mem_filterMap, List.mem_range]
  refine exists_congr fun k => and_congr_right fun _ => ?_
  split
  · next hz => simp [hz, eq_comm]
  · next hnz =>
    rw [Option.some.injEq, Prod.mk.injEq, eq_comm (a := a)]
    exact and_congr_right fun _ => ⟨fun hv => ⟨hv ▸ hnz, hv⟩, And.right⟩

/-- The tile and the pixel of a place in `tiles` are its quotient and its remainder by 64. -/
theorem mem_unpackTiles {chr : Memory} {t k : Nat} {v : Byte} (ht : t < 512) (hk : k < 64) :
    (t * 64 + k, v) ∈ unpackTiles chr ↔
      v ≠ Memory.unlisted ∧ tilePixel (Memory.slice chr (t * 16) 16) k = v := by
  simp only [unpackTiles, List.mem_flatMap, List.mem_range, mem_tilePixels]
  constructor
  · rintro ⟨t', -, k', hk', hplace, hv⟩
    obtain rfl : t = t' := by omega
    obtain rfl : k = k' := by omega
    exact hv
  · exact fun hv => ⟨t, ht, k, hk, rfl, hv⟩

theorem get_unpackTiles (chr : Memory) {t k : Nat} (ht : t < 512) (hk : k < 64) :
    Memory.get (unpackTiles chr) (t * 64 + k) = tilePixel (Memory.slice chr (t * 16) 16) k := by
  have hmem (v : Byte) := (Memory.mem_iff (unpackTiles_wf chr)).symm.trans (mem_unpackTiles (v := v) ht hk)
  by_cases hz : tilePixel (Memory.slice chr (t * 16) 16) k = Memory.unlisted
  · by_contra hne
    have hnz : Memory.get (unpackTiles chr) (t * 64 + k) ≠ Memory.unlisted := fun h => hne (h.trans hz.symm)
    exact hne ((hmem _).mp ⟨hnz, rfl⟩).2.symm
  · exact ((hmem _).mpr ⟨hz, rfl⟩).2

/-! The image: where its parts lie, and the checks in the order R191 makes them. -/

theorem prgOffset_eq (flags : Byte) : prgOffset flags = 16 + (if flags.toNat / 4 % 2 = 1 then 512 else 0) := by
  simp only [prgOffset, getLsbD_iff, Nat.reducePow]

theorem imageNeed_eq (flags : Byte) (banks : Nat) :
    imageNeed flags banks = 16 + (if flags.toNat / 4 % 2 = 1 then 512 else 0) + banks * 0x4000 + 0x2000 := by
  rw [imageNeed, prgOffset_eq, prgBankSize, chrBankSize]

theorem cartOf_mirroring (im : Image) :
    (cartOf im).mirroring = if (Memory.get im.bytes 6).toNat % 2 = 1 then .vertical else .horizontal := by
  simp only [cartOf, getLsbD_iff, Nat.pow_zero, Nat.div_one]

theorem get_cartOf_prg (im : Image) {i : Nat} (hi : i < (Memory.get im.bytes 4).toNat * 0x4000) :
    Memory.get (cartOf im).prg i = Memory.get im.bytes (prgOffset (Memory.get im.bytes 6) + i) :=
  (Memory.get_slice ..).trans (if_pos hi)

theorem get_cartOf_chr (im : Image) {i : Nat} (hi : i < 0x2000) :
    Memory.get (cartOf im).chr i =
      Memory.get im.bytes (prgOffset (Memory.get im.bytes 6) + (Memory.get im.bytes 4).toNat * 0x4000 + i) :=
  (Memory.get_slice ..).trans (if_pos hi)

theorem loadCheck_of_noHeader (h : im.length < 16) : loadCheck im = .error .truncatedImage := if_pos h

section
variable (hlen : 16 ≤ im.length)
include hlen

theorem loadCheck_of_fourScreen (hfour : (Memory.get im.bytes 6).toNat / 8 % 2 = 1) :
    loadCheck im = .error (.unsupportedFeature .fourScreen) := by
  rw [loadCheck, if_neg (Nat.not_lt.mpr hlen), if_pos ((getLsbD_iff _ 3).mpr hfour)]

variable (hfour : (Memory.get im.bytes 6).toNat / 8 % 2 = 0)
include hfour

theorem loadCheck_of_twoScreen :
    loadCheck im =
      if 1 < (Memory.get im.bytes 5).toNat then .error (.unsupportedFeature .multiBankChr)
      else if (Memory.get im.bytes 4).toNat = 0 then .error (.unsupportedFeature .noPrg)
      else if im.length < imageNeed (Memory.get im.bytes 6) (Memory.get im.bytes 4).toNat then .error .truncatedImage
      else .ok (decide (imageNeed (Memory.get im.bytes 6) (Memory.get im.bytes 4).toNat < im.length)) := by
  have hclear : ¬ (Memory.get im.bytes 6).getLsbD 3 = true := by
    rw [getLsbD_iff]
    omega
  rw [loadCheck, if_neg (Nat.not_lt.mpr hlen), if_neg hclear]

theorem loadCheck_of_multiBankChr (hchr : 1 < (Memory.get im.bytes 5).toNat) :
    loadCheck im = .error (.unsupportedFeature .multiBankChr) := by
  rw [loadCheck_of_twoScreen hlen hfour, if_pos hchr]

variable (hchr : (Memory.get im.bytes 5).toNat ≤ 1)
include hchr

theorem loadCheck_of_noPrg (hprg : (Memory.get im.bytes 4).toNat = 0) :
    loadCheck im = .error (.unsupportedFeature .noPrg) := by
  rw [loadCheck_of_twoScreen hlen hfour, if_neg (Nat.not_lt.mpr hchr), if_pos hprg]

variable (hprg : (Memory.get im.bytes 4).toNat ≠ 0)
include hprg

theorem loadCheck_of_short (h : im.length < imageNeed (Memory.get im.bytes 6) (Memory.get im.bytes 4).toNat) :
    loadCheck im = .error .truncatedImage := by
  rw [loadCheck_of_twoScreen hlen hfour, if_neg (Nat.not_lt.mpr hchr), if_neg hprg, if_pos h]

theorem loadCheck_of_complete (h : imageNeed (Memory.get im.bytes 6) (Memory.get im.bytes 4).toNat ≤ im.length) :
    loadCheck im = .ok (decide (imageNeed (Memory.get im.bytes 6) (Memory.get im.bytes 4).toNat < im.length)) := by
  rw [loadCheck_of_twoScreen hlen hfour, if_neg (Nat.not_lt.mpr hchr), if_neg hprg, if_neg (Nat.not_lt.mpr h)]

end

/-! LOAD_CART by the outcome of the checks (R191, R196). -/

theorem loadImage_of_ok {w : Bool} (h : loadCheck im = .ok w) (s : State) :
    loadImage im s = answer (.load (.ok w)) { s with cart := cartOf im } := by
  rw [loadImage, h]

theorem loadImage_of_error {e : LoadError} (h : loadCheck im = .error e) (s : State) :
    loadImage im s = answer (.load (.error e)) s := by
  rw [loadImage, h]

theorem exec_loadCart_of_none (hf : s.fault = none) (hq : s.env.images = []) :
    exec .loadCart s = .next (loadImage Image.empty s) := by
  rcases execLoadCart_cases hf with ⟨-, e⟩ | ⟨im, ims, hq', -⟩
  · exact e
  · exact nomatch hq.symm.trans hq'

theorem exec_loadCart_of_handed (hf : s.fault = none) (hq : s.env.images = im :: ims) :
    exec .loadCart s = .next (loadImage im { s with env := { s.env with images := ims } }) := by
  rcases execLoadCart_cases hf with ⟨hq', -⟩ | ⟨im', ims', hq', e⟩
  · exact nomatch hq.symm.trans hq'
  · cases hq.symm.trans hq'
    exact e

theorem exec_loadCart_of_error {e : LoadError} (hf : s.fault = none) (hq : s.env.images = im :: ims)
    (h : loadCheck im = .error e) :
    exec .loadCart s = .next { s with env := { s.env with images := ims }, outputs := .load (.error e) :: s.outputs } := by
  rw [exec_loadCart_of_handed hf hq, loadImage_of_error h]
  rfl

theorem exec_loadCart_of_ok {w : Bool} (hf : s.fault = none) (hq : s.env.images = im :: ims) (h : loadCheck im = .ok w) :
    exec .loadCart s = .next { s with
      cart := cartOf im, env := { s.env with images := ims }, outputs := .load (.ok w) :: s.outputs } := by
  rw [exec_loadCart_of_handed hf hq, loadImage_of_ok h]
  rfl

/-! The palette query. -/

theorem paletteQueryIndex_eq (area : PaletteArea) (pal color : Fin 4) :
    paletteQueryIndex area pal color =
      if color.val = 0 then 0 else (if area = .sprite then 16 else 0) + pal.val * 4 + color.val := by
  have hcode : area.code * 16 = if area = .sprite then 16 else 0 := by cases area <;> rfl
  simp only [paletteQueryIndex, hcode, Fin.ext_iff, Fin.val_zero]

end Sys2Proof.Machine

section
open Sys2Proof Sys2Proof.Machine

/-- Settles O49: an image that passes every check is committed as `cartOf` cuts it. -/
theorem loadCartCommitsImage : Obligations.LoadCartCommitsImage := by
  intro s im ims hf hq h4 h5 h6 off need hlen hfour hchr hprg hneed
  have hoff : prgOffset (Memory.get im.bytes 6) = off := prgOffset_eq _
  have hcheck : loadCheck im = .ok (decide (need < im.length)) := by
    have hall := loadCheck_of_complete hlen hfour hchr hprg
    rw [imageNeed_eq] at hall
    exact hall hneed
  refine ⟨cartOf im, exec_loadCart_of_ok hf hq hcheck, rfl, rfl, cartOf_mirroring im, fun i hi => ?_, fun i hi => ?_,
    cartOf_tiles im⟩
  · rw [get_cartOf_prg im hi, hoff]
  · rw [get_cartOf_chr im hi, hoff]

/-- Settles O50, by the check that fails: each answers its error, and so does the empty image. -/
theorem failedLoadChangesNothing : Obligations.FailedLoadChangesNothing := by
  intro s hf
  refine ⟨fun hq => ?_, fun im ims hq => ?_⟩
  · rw [exec_loadCart_of_none hf hq, loadImage_of_error (loadCheck_of_noHeader (by decide))]
    rfl
  · intro h4 h5 h6 need fails
    have hfails : ∀ {e}, loadCheck im = .error e → fails e := exec_loadCart_of_error hf hq
    refine ⟨fun h => hfails (loadCheck_of_noHeader h), fun hlen h => hfails (loadCheck_of_fourScreen hlen h),
      fun hlen hfour h => hfails (loadCheck_of_multiBankChr hlen hfour h),
      fun hlen hfour hchr h => hfails (loadCheck_of_noPrg hlen hfour hchr h), fun hlen hfour hchr hprg h => ?_⟩
    exact hfails (loadCheck_of_short hlen hfour hchr hprg (by rwa [imageNeed_eq]))

/-- Settles O51: the place of a pixel names its tile and its number, whose rows are bytes of the tile's 16-byte block. -/
theorem unpackTilesPixelByPixel : Obligations.UnpackTilesPixelByPixel := by
  intro chr table t row x htable ht hrow hx
  have hplace : table * 16384 + t * 64 + row * 8 + x = (table * 256 + t) * 64 + (row * 8 + x) := by omega
  have hdiv : (row * 8 + x) / 8 = row := by omega
  have hmod : (row * 8 + x) % 8 = x := by omega
  have hblock : (table * 256 + t) * 16 = table * 0x1000 + t * 16 := by omega
  rw [hplace, get_unpackTiles chr (by omega) (by omega), tilePixel_toNat, hdiv, hmod, hblock,
    Memory.get_slice, Memory.get_slice, if_pos (by omega), if_pos (by omega), ← Nat.add_assoc _ 8 row]

/-- Settles O45: the zeroed part, the cartridge before a load, and the model's own fields, as `createSystem` leaves them. -/
theorem createBeginsNewSystem : Obligations.CreateBeginsNewSystem :=
  fun _ => rfl

/-- Settles O52: the index by area, palette and colour. -/
theorem paletteQueryResolvesEntry : Obligations.PaletteQueryResolvesEntry :=
  fun s area pal color hf => ⟨Memory.get s.palette (paletteQueryIndex area pal color), accept_of_ok hf,
    congrArg _ (paletteQueryIndex_eq area pal color), rfl⟩

end
end

section
/-! PROOF. The statement of spec/60: the causes of the block's faults, read off the map range by range (O9). -/

namespace Sys2Proof.Machine

variable {s t : State} {i : Instr} {a : Addr} {v : Byte}

/-! The causes of R211 to R213, and what raises none. -/

theorem busFault_read_of_routing (h : a.toNat = 0x4014 ∨ (0x4018 ≤ a.toNat ∧ a.toNat ≤ 0x5FFF)) :
    busFault (.read a) s = some ⟨.routingFault, a, .read⟩ :=
  if_pos h

theorem busFault_read_of_latched (hlo : 0x2000 ≤ a.toNat) (hhi : a.toNat ≤ 0x3FFF) (hport : a.toNat % 8 = 7)
    (hw : s.writeCount = true) : busFault (.read a) s = some ⟨.protocolFault, a, .read⟩ := by
  rw [busFault, if_neg (by omega), if_pos ⟨hlo, hhi, hport, hw⟩]

theorem busFault_read_of_unloaded (h : 0x8000 ≤ a.toNat) (hc : s.cart.loaded = false) :
    busFault (.read a) s = some ⟨.noCartridge, a, .read⟩ := by
  rw [busFault, if_neg (by omega), if_neg (by omega), if_pos ⟨h, hc⟩]

theorem busFault_read_eq_none (hroute : ¬(a.toNat = 0x4014 ∨ (0x4018 ≤ a.toNat ∧ a.toNat ≤ 0x5FFF)))
    (hdata : 0x2000 ≤ a.toNat → a.toNat ≤ 0x3FFF → a.toNat % 8 = 7 → s.writeCount = false)
    (hprg : 0x8000 ≤ a.toNat → s.cart.loaded = true) : busFault (.read a) s = none := by
  rw [busFault, if_neg hroute, if_neg, if_neg]
  · rintro ⟨h, hc⟩
    exact Bool.false_ne_true (hc.symm.trans (hprg h))
  · rintro ⟨hlo, hhi, hport, hw⟩
    exact Bool.false_ne_true ((hdata hlo hhi hport).symm.trans hw)

theorem busFault_write_of_routing (h : (0x2000 ≤ a.toNat ∧ a.toNat ≤ 0x3FFF ∧ a.toNat % 8 = 2)
    ∨ (0x4018 ≤ a.toNat ∧ a.toNat ≤ 0x5FFF) ∨ 0x8000 ≤ a.toNat) :
    busFault (.write a v) s = some ⟨.routingFault, a, .write⟩ :=
  if_pos h

theorem busFault_write_of_latched (hlo : 0x2000 ≤ a.toNat) (hhi : a.toNat ≤ 0x3FFF) (hport : a.toNat % 8 = 7)
    (hw : s.writeCount = true) : busFault (.write a v) s = some ⟨.protocolFault, a, .write⟩ := by
  rw [busFault, if_neg (by omega), if_pos ⟨hlo, hhi, hport, hw⟩]

theorem busFault_write_eq_none (hroute : ¬((0x2000 ≤ a.toNat ∧ a.toNat ≤ 0x3FFF ∧ a.toNat % 8 = 2)
    ∨ (0x4018 ≤ a.toNat ∧ a.toNat ≤ 0x5FFF) ∨ 0x8000 ≤ a.toNat))
    (hdata : 0x2000 ≤ a.toNat → a.toNat ≤ 0x3FFF → a.toNat % 8 = 7 → s.writeCount = false) :
    busFault (.write a v) s = none := by
  rw [busFault, if_neg hroute, if_neg]
  rintro ⟨hlo, hhi, hport, hw⟩
  exact Bool.false_ne_true ((hdata hlo hhi hport).symm.trans hw)

/-! An operation that completes, with or without a fault. -/

/-- `i` is performed from `s` and leaves the fault record at `f`; if that is a fault, it is all that changes (R214). -/
def CompletesWith (i : Instr) (s : State) (f : Option FaultRecord) : Prop :=
  ∃ t, exec i s = .next t ∧ t.fault = f ∧ (f ≠ none → t = { s with fault := f })

theorem completesWith_none (ht : exec i s = .next t) (hf : t.fault = none) : CompletesWith i s none :=
  ⟨t, ht, hf, fun h => absurd rfl h⟩

theorem completesWith_fault {k : FaultKind} {d : Dir} (ht : exec i s = .next (raiseFault k a d s)) :
    CompletesWith i s (some ⟨k, a, d⟩) :=
  ⟨_, ht, rfl, fun _ => rfl⟩

/-- No controller read raises a fault (R150). -/
theorem ctrlRead_fault (c : Fin 2) (s : State) : (ctrlRead c s).fault = s.fault := by
  rcases ctrlRead_cases c s with ⟨v, e⟩ | ⟨v, -, e⟩ | ⟨v, k, -, e⟩
  all_goals rw [e, returnByte_fault]

/-- No strobe raises a fault (R152). -/
theorem strobeWrite_fault (bit : Bool) (s : State) : (strobeWrite bit s).fault = s.fault := by
  rcases strobeWrite_cases bit s with e | e | e
  all_goals rw [e]

/-! Every access completes with the fault of the lists, range by range. -/

theorem ppudataRd_completesWith (hf : s.fault = none) (hlo : 0x2000 ≤ a.toNat) (hhi : a.toNat ≤ 0x3FFF)
    (hport : a.toNat % 8 = 7) : CompletesWith (.ppudataRd a) s (busFault (.read a) s) := by
  cases hw : s.writeCount with
  | true =>
    rw [busFault_read_of_latched hlo hhi hport hw]
    exact completesWith_fault (exec_ppudataRd_of_latched hf hw a)
  | false =>
    rw [busFault_read_eq_none (by omega) (fun _ _ _ => hw) (by omega)]
    exact completesWith_none (exec_ppudataRd_of_unlatched hf hw a) hf

theorem ppudataWr_completesWith (hf : s.fault = none) (hlo : 0x2000 ≤ a.toNat) (hhi : a.toNat ≤ 0x3FFF)
    (hport : a.toNat % 8 = 7) : CompletesWith (.ppudataWr a v) s (busFault (.write a v) s) := by
  cases hw : s.writeCount with
  | true =>
    rw [busFault_write_of_latched hlo hhi hport hw]
    exact completesWith_fault (exec_ppudataWr_of_latched hf hw a v)
  | false =>
    rw [busFault_write_eq_none (by omega) fun _ _ _ => hw]
    exact completesWith_none (exec_ppudataWr_of_unlatched hf hw a v) ((vramStore_fault s.vramAddr v s).trans hf)

theorem portRead_completesWith (hf : s.fault = none) (hlo : 0x2000 ≤ a.toNat) (hhi : a.toNat ≤ 0x3FFF) :
    CompletesWith (portRead a) s (busFault (.read a) s) := by
  have hquiet {i : Instr} {t : State} (h7 : a.toNat % 8 ≠ 7) (ht : exec i s = .next t) (htf : t.fault = none) :
      CompletesWith i s (busFault (.read a) s) := by
    rw [busFault_read_eq_none (by omega) (by omega) (by omega)]
    exact completesWith_none ht htf
  have hp : a.toNat % 8 < 8 := Nat.mod_lt _ (by decide)
  unfold portRead
  generalize hport : a.toNat % 8 = p at hp ⊢
  interval_cases p
  · exact hquiet (by omega) (accept_of_ok hf) hf
  · exact hquiet (by omega) (accept_of_ok hf) hf
  · exact hquiet (by omega) (accept_of_ok hf) hf
  · exact hquiet (by omega) (accept_of_ok hf) hf
  · exact hquiet (by omega) (accept_of_ok hf) hf
  · exact hquiet (by omega) (accept_of_ok hf) hf
  · exact hquiet (by omega) (accept_of_ok hf) hf
  · exact ppudataRd_completesWith hf hlo hhi hport

theorem portWrite_completesWith (hf : s.fault = none) (hlo : 0x2000 ≤ a.toNat) (hhi : a.toNat ≤ 0x3FFF) :
    CompletesWith (portWrite a v) s (busFault (.write a v) s) := by
  have hquiet {i : Instr} {t : State} (h2 : a.toNat % 8 ≠ 2) (h7 : a.toNat % 8 ≠ 7) (ht : exec i s = .next t)
      (htf : t.fault = none) : CompletesWith i s (busFault (.write a v) s) := by
    rw [busFault_write_eq_none (by omega) (by omega)]
    exact completesWith_none ht htf
  have hp : a.toNat % 8 < 8 := Nat.mod_lt _ (by decide)
  unfold portWrite
  generalize hport : a.toNat % 8 = p at hp ⊢
  interval_cases p
  · exact hquiet (by omega) (by omega) (accept_of_ok hf) hf
  · exact hquiet (by omega) (by omega) (accept_of_ok hf) hf
  · rw [busFault_write_of_routing (.inl ⟨hlo, hhi, hport⟩)]
    exact completesWith_fault (accept_of_ok hf)
  · exact hquiet (by omega) (by omega) (accept_of_ok hf) hf
  · exact hquiet (by omega) (by omega) (accept_of_ok hf) hf
  · refine hquiet (by omega) (by omega) (accept_of_ok hf) ?_
    split <;> exact hf
  · refine hquiet (by omega) (by omega) (accept_of_ok hf) ?_
    split <;> exact hf
  · exact ppudataWr_completesWith hf hlo hhi hport

theorem ioRead_completesWith (hf : s.fault = none) (hlo : 0x4000 ≤ a.toNat) (hhi : a.toNat < 0x4018) :
    CompletesWith (ioRead a) s (busFault (.read a) s) := by
  by_cases hdma : a.toNat = 0x4014
  · obtain rfl : a = 0x4014 := BitVec.eq_of_toNat_eq hdma
    rw [busFault_read_of_routing (.inl rfl)]
    exact completesWith_fault (accept_of_ok hf)
  · rw [busFault_read_eq_none (by omega) (by omega) (by omega)]
    unfold ioRead
    repeat' split
    · exact completesWith_none (accept_of_ok hf) hf
    · exact completesWith_none (accept_of_ok hf) hf
    · omega
    · exact completesWith_none (accept_of_ok hf) hf
    · exact completesWith_none (accept_of_ok hf) ((ctrlRead_fault 0 s).trans hf)
    · exact completesWith_none (accept_of_ok hf) ((ctrlRead_fault 1 s).trans hf)

theorem ioWrite_completesWith (hf : s.fault = none) (hlo : 0x4000 ≤ a.toNat) (hhi : a.toNat < 0x4018) :
    CompletesWith (ioWrite a v) s (busFault (.write a v) s) := by
  rw [busFault_write_eq_none (by omega) (by omega)]
  unfold ioWrite
  repeat' split
  · exact completesWith_none (accept_of_ok hf) hf
  · exact completesWith_none (accept_of_ok hf) hf
  · exact completesWith_none (accept_of_ok hf) hf
  · exact completesWith_none (accept_of_ok hf) hf
  · exact completesWith_none (exec_joy1Wr hf v) ((strobeWrite_fault (v.getLsbD 0) s).trans hf)
  · exact completesWith_none (accept_of_ok hf) hf

theorem unmappedRead_completesWith (hf : s.fault = none) (hlo : 0x4018 ≤ a.toNat) (hhi : a.toNat ≤ 0x5FFF) :
    CompletesWith (unmappedRead a) s (busFault (.read a) s) := by
  rw [busFault_read_of_routing (.inr ⟨hlo, hhi⟩)]
  exact completesWith_fault (exec_of_mem_unmappedReads hf (unmappedRead_mem_unmappedReads a))

theorem unmappedWrite_completesWith (hf : s.fault = none) (hlo : 0x4018 ≤ a.toNat) (hhi : a.toNat ≤ 0x5FFF) :
    CompletesWith (unmappedWrite a v) s (busFault (.write a v) s) := by
  rw [busFault_write_of_routing (.inr (.inl ⟨hlo, hhi⟩))]
  exact completesWith_fault (exec_of_mem_unmappedWrites hf (unmappedWrite_mem_unmappedWrites a v))

theorem prgRd_completesWith (hf : s.fault = none) (h : 0x8000 ≤ a.toNat) :
    CompletesWith (.prgRd a) s (busFault (.read a) s) := by
  cases hc : s.cart.loaded with
  | true =>
    rw [busFault_read_eq_none (by omega) (by omega) fun _ => hc]
    exact completesWith_none (exec_prgRd_of_loaded hf hc a) hf
  | false =>
    rw [busFault_read_of_unloaded h hc]
    exact completesWith_fault (exec_prgRd_of_unloaded hf hc a)

theorem decodeRead_completesWith (hf : s.fault = none) (a : Addr) :
    CompletesWith (decodeRead a) s (busFault (.read a) s) := by
  unfold decodeRead
  repeat' split
  · rw [busFault_read_eq_none (by omega) (by omega) (by omega)]
    exact completesWith_none (accept_of_ok hf) hf
  · exact portRead_completesWith hf (by omega) (by omega)
  · exact ioRead_completesWith hf (by omega) (by omega)
  · exact unmappedRead_completesWith hf (by omega) (by omega)
  · rw [busFault_read_eq_none (by omega) (by omega) (by omega)]
    exact completesWith_none (accept_of_ok hf) hf
  · exact prgRd_completesWith hf (by omega)

theorem decodeWrite_completesWith (hf : s.fault = none) (a : Addr) (v : Byte) :
    CompletesWith (decodeWrite a v) s (busFault (.write a v) s) := by
  unfold decodeWrite
  repeat' split
  · rw [busFault_write_eq_none (by omega) (by omega)]
    exact completesWith_none (accept_of_ok hf) hf
  · exact portWrite_completesWith hf (by omega) (by omega)
  · exact ioWrite_completesWith hf (by omega) (by omega)
  · exact unmappedWrite_completesWith hf (by omega) (by omega)
  · rw [busFault_write_eq_none (by omega) (by omega)]
    exact completesWith_none (accept_of_ok hf) hf
  · rw [busFault_write_of_routing (by omega)]
    exact completesWith_fault (accept_of_ok hf)

end Sys2Proof.Machine

section
open Sys2Proof Sys2Proof.Machine

/-- Settles O9: in each range of the map the operation decoded raises the fault the lists give there. -/
theorem faultCausesAreComplete : Obligations.FaultCausesAreComplete := by
  intro op s hf
  cases op with
  | read a => exact decodeRead_completesWith hf a
  | write a v => exact decodeWrite_completesWith hf a v

end
end

section
/-! PROOF. The statements of spec/70: RESET with and without a scripted entry (O46), and an entry of less than a scanline
(O47). -/

namespace Sys2Proof.Machine

variable {s : State} {n : Nat}

/-! RESET: the state the reset entry starts from, and the entry (R36, R240). -/

/-- The state as the reset entry finds it: the reset values, and what RESET preserves (R36; log 16). -/
theorem zeroVolatile_eq_reset (hf : s.fault = none) :
    zeroVolatile s = { State.reset with
      sram := s.sram, cart := s.cart, nameAttr := s.nameAttr, outputs := s.outputs, creations := s.creations
      env := s.env } := by
  rw [zeroVolatile, hf]
  rfl

theorem resetAccesses_of_scripted {c : List BusOp} {cs : List (List BusOp)} (h : s.env.cpuResets = c :: cs) :
    resetAccesses s = (c, { s with env := { s.env with cpuResets := cs } }) := by
  simp only [resetAccesses, h]

/-- With a script the entry issues the bus operations of its next call, at the word's cost (log 10). -/
theorem exec_reset_of_scripted {c : List BusOp} {cs : List (List BusOp)} (hf : s.fault = none)
    (hc : s.env.cpuResets = c :: cs) (m : BitVec 16) :
    exec (.reset m) s
      = .next (cpuEntry c m.toNat (zeroVolatile { s with env := { s.env with cpuResets := cs } })) := by
  change accept s (cpuEntry (resetAccesses s).1 m.toNat (zeroVolatile (resetAccesses s).2)) = _
  rw [accept_of_ok hf, resetAccesses_of_scripted hc]

/-! TICK within a scanline: nothing is folded (R165, R166). -/

theorem foldDots_of_lt (h : s.dot < 341) : foldDots s = s := by
  rw [foldDots, dotsPerScanline, Nat.div_eq_of_lt h, foldLoop]

theorem tickCycles_of_lt (h : s.dot + 3 * n < 341) :
    tickCycles n s = spriteZeroTest { s with cpuCycles := s.cpuCycles + n, dot := s.dot + 3 * n } :=
  congrArg spriteZeroTest (foldDots_of_lt h)

/-- Sprite zero at the top left corner, where the zeroed sprite RAM puts it, is hit on scanline 0 by dots 0 to 7 (R168). -/
theorem spriteZeroAt_topLeft (hram : s.spriteRam = []) (hline : s.scanline = 0) :
    spriteZeroAt s = decide (s.dot ≤ 7) := by
  rw [Bool.eq_iff_iff, spriteZeroAt_iff, decide_eq_true_iff, hram, hline, Memory.get_nil, Memory.get_nil]
  have hzero : (0 : Byte).toNat = 0 := rfl
  omega

end Sys2Proof.Machine

section
open Sys2Proof Sys2Proof.Machine

/-- Settles O46, by the script: without one the entry is the TICK, with one the accesses decide whether the cost passes. -/
theorem resetZeroesAndTicksEntryCost : Obligations.ResetZeroesAndTicksEntryCost := by
  refine fun s m hf => ⟨fun hr => ?_, fun c cs hc => ?_⟩
  · rw [exec_reset_of_unscripted hf hr, zeroVolatile_eq_reset hf]
    exact ⟨_, rfl, exec_tick rfl m⟩
  · rw [exec_reset_of_scripted hf hc, zeroVolatile_eq_reset (s := { s with env := { s.env with cpuResets := cs } }) hf]
    exact ⟨fun hu => ⟨_, by rw [cpuEntry_of_ok hu], exec_tick hu m⟩, fun hu => by rw [cpuEntry_of_faulted hu]⟩

/-- Settles O47: less than 341 dots leave the scan on scanline 0 at dot three times the cost, so nothing is entered, and the
box ends at dot 7. -/
theorem shortResetEntryCost : Obligations.ShortResetEntryCost := by
  intro s m hf hr hm
  have hdots : (zeroVolatile s).dot + 3 * m.toNat < 341 := by
    rw [zeroVolatile_dot]
    omega
  refine ⟨_, exec_reset_of_unscripted hf hr m, ?_⟩
  rw [tickCycles_of_lt hdots, spriteZeroTest_eq, spriteZeroAt_topLeft rfl rfl]
  refine ⟨Nat.zero_add _, Nat.zero_add _, rfl, ?_, rfl, rfl, rfl⟩
  have hbox : (zeroVolatile s).dot + 3 * m.toNat ≤ 7 ↔ m.toNat ≤ 2 := by
    rw [zeroVolatile_dot]
    omega
  exact (Bool.false_or _).trans (decide_eq_decide.mpr hbox)

end
end
